-- ==== Sys2Proof/Word.lean ====
section
/-! DEFINITION. The byte of the control link, sparse memories as plain data, and saturating arithmetic. -/

namespace Sys2Proof

/-- A byte of the control link (R156). -/
abbrev Byte := BitVec 8

/-- An addressed memory as plain data: (address, contents) pairs with addresses strictly rising and no pair equal to
what an unlisted address reads as. -/
abbrev Sparse (α : Type) := List (Nat × α)

/-- `a + b`, or `top` when the sum would pass it: the manual's "saturating at". -/
def satAdd (top a b : Nat) : Nat := min (a + b) top

/-- A value replaced by the nearest end of `lo..hi` when it lies outside (00_scope.md 4.2, "clamped"). -/
def clampInt (lo hi v : Int) : Int := max lo (min hi v)

end Sys2Proof
end

