-- ==== Sys2Proof/Syntax.lean ====
section
/-! DEFINITION. The commands of the LF4216: one constructor per row of spec/opcode_table.json, and the request kinds. -/

namespace Sys2Proof

/-- The two encoder channels (R1). -/
inductive Channel
  | a
  | b
  deriving DecidableEq, Repr

/-- The requests of Table LXVIII. -/
inductive Request
  | ident
  | readStatus
  | reset
  | clearFault
  | start
  | stop
  | calibrate
  | setHead
  | setEncoder
  | splice
  | setLane
  | armLane
  | clearLane
  | setSpot
  | setStreak
  | setClips
  | loadTable
  | readTable
  | setPriority
  | setFaultAction
  | setAttention
  | readTrack
  | readClip
  | releaseTrack
  | listTracks
  deriving DecidableEq, Repr

/-- The commands. `elapsed` is the time, in units of 0.1 µs, since the last command that carried one (log 3). A request row
carries the TAG and the PAYLOAD of its frame and stands for that frame being judged good (log 1). -/
inductive Instr
  /-- ENCODER_EDGE (R1): the channel takes the level. -/
  | encoderEdge (channel : Channel) (level : Bool) (elapsed : Nat)
  /-- STANDSTILL_TIMER_EXPIRY (R10). -/
  | standstillTimerExpiry
  /-- SPLICE_IN (R12): an edge of the splice input, rising or falling. -/
  | spliceIn (rising : Bool)
  /-- CALIBRATION_TIMER_EXPIRY (R8). -/
  | calibrationTimerExpiry
  /-- CLOSE_OUT_WAIT_EXPIRY (R49). -/
  | closeOutWaitExpiry
  /-- HEAD_LINE_START (R26). -/
  | headLineStart (head : Fin 4)
  /-- HEAD_RAW_LEVEL (R27). -/
  | headRawLevel (head : Fin 4) (level : Fin 1024)
  /-- HEAD_LINE_END (R28). -/
  | headLineEnd (head : Fin 4)
  /-- LINE_HANDOVER (R31). -/
  | lineHandover
  /-- LNC_STAGE (R69). -/
  | lncStage
  /-- SPD_STAGE (R78). -/
  | spdStage
  /-- STI_STAGE (R94). -/
  | stiStage
  /-- TRK_STAGE (R109). -/
  | trkStage
  /-- LINK_BYTE (R157): a byte completes on LINK_RXD. -/
  | linkByte (byte : Byte) (elapsed : Nat)
  /-- GAP_TIMER_EXPIRY (R158). -/
  | gapTimerExpiry
  /-- FRAME_BOUNDARY (R165). -/
  | frameBoundary
  /-- UNKNOWN_KIND (R162): a frame whose KIND is no request code. -/
  | unknownKind (kind tag : Byte) (payload : List Byte)
  /-- IDENT (R167). -/
  | ident (tag : Byte) (payload : List Byte)
  /-- READ_STATUS (R182). -/
  | readStatus (tag : Byte) (payload : List Byte) (elapsed : Nat)
  /-- RESET (R166). -/
  | reset (tag : Byte) (payload : List Byte)
  /-- CLEAR_FAULT (R181). -/
  | clearFault (tag : Byte) (payload : List Byte)
  /-- START (R172). -/
  | start (tag : Byte) (payload : List Byte)
  /-- STOP (R173). -/
  | stop (tag : Byte) (payload : List Byte)
  /-- CALIBRATE (R47). -/
  | calibrate (tag : Byte) (payload : List Byte)
  /-- SET_HEAD (R22). -/
  | setHead (tag : Byte) (payload : List Byte)
  /-- SET_ENCODER (R15). -/
  | setEncoder (tag : Byte) (payload : List Byte)
  /-- SPLICE (R13). -/
  | splice (tag : Byte) (payload : List Byte)
  /-- SET_LANE (R57). -/
  | setLane (tag : Byte) (payload : List Byte)
  /-- ARM_LANE (R60). -/
  | armLane (tag : Byte) (payload : List Byte)
  /-- CLEAR_LANE (R59). -/
  | clearLane (tag : Byte) (payload : List Byte)
  /-- SET_SPOT (R76). -/
  | setSpot (tag : Byte) (payload : List Byte)
  /-- SET_STREAK (R92). -/
  | setStreak (tag : Byte) (payload : List Byte)
  /-- SET_CLIPS (R130). -/
  | setClips (tag : Byte) (payload : List Byte)
  /-- LOAD_TABLE (R42). -/
  | loadTable (tag : Byte) (payload : List Byte)
  /-- READ_TABLE (R43). -/
  | readTable (tag : Byte) (payload : List Byte)
  /-- SET_PRIORITY (R144). -/
  | setPriority (tag : Byte) (payload : List Byte)
  /-- SET_FAULT_ACTION (R179). -/
  | setFaultAction (tag : Byte) (payload : List Byte)
  /-- SET_ATTENTION (R152). -/
  | setAttention (tag : Byte) (payload : List Byte)
  /-- READ_TRACK (R124). -/
  | readTrack (tag : Byte) (payload : List Byte)
  /-- LIST_TRACKS (R125). -/
  | listTracks (tag : Byte) (payload : List Byte)
  /-- RELEASE_TRACK (R122). -/
  | releaseTrack (tag : Byte) (payload : List Byte)
  /-- READ_CLIP (R137). -/
  | readClip (tag : Byte) (payload : List Byte)
  /-- POWER_ON_RESET (R177). -/
  | powerOnReset
  /-- PIN_RESET_ASSERT (R177): RESET_N goes low. -/
  | pinResetAssert
  /-- PIN_RESET_END (R177): RESET_N returns high. -/
  | pinResetEnd
  deriving DecidableEq, Repr

end Sys2Proof
end

