-- ==== Sys2Proof/Decode.lean ====
section
/-! DEFINITION. The codes of the requests (Table LXVIII), the lengths of their payloads (Table LXIX), and the decoder of
opcode-table words. -/

namespace Sys2Proof

/-- The KIND code of a request (Table LXVIII). -/
def Request.code : Request → Byte
  | .ident => 0x01
  | .readStatus => 0x02
  | .reset => 0x03
  | .clearFault => 0x04
  | .start => 0x08
  | .stop => 0x09
  | .calibrate => 0x0A
  | .setHead => 0x10
  | .setEncoder => 0x11
  | .splice => 0x12
  | .setLane => 0x18
  | .armLane => 0x19
  | .clearLane => 0x1A
  | .setSpot => 0x20
  | .setStreak => 0x21
  | .setClips => 0x22
  | .loadTable => 0x28
  | .readTable => 0x29
  | .setPriority => 0x30
  | .setFaultAction => 0x31
  | .setAttention => 0x32
  | .readTrack => 0x38
  | .readClip => 0x39
  | .releaseTrack => 0x3A
  | .listTracks => 0x3B

/-- Every request of Table LXVIII. -/
def Request.all : List Request :=
  [.ident, .readStatus, .reset, .clearFault, .start, .stop, .calibrate, .setHead, .setEncoder, .splice, .setLane,
   .armLane, .clearLane, .setSpot, .setStreak, .setClips, .loadTable, .readTable, .setPriority, .setFaultAction,
   .setAttention, .readTrack, .readClip, .releaseTrack, .listTracks]

/-- The request that a KIND names, or none when it is no request code (R162 step 1). -/
def Request.ofCode (kind : Byte) : Option Request := Request.all.find? (fun r => r.code == kind)

/-- The widths in bytes of the fields of a request, in field order (R170): the fewest bytes that hold each field's range.
LOAD_TABLE's 256 entries are not listed here; its two lengths depend on its table field (R41). -/
def Request.fieldWidths : Request → List Nat
  | .calibrate => [1, 1, 2, 2, 2]
  | .setHead => [2, 2] ++ (List.replicate 4 [1, 2, 2, 2, 1]).flatten
  | .setEncoder => [2, 1, 2, 2, 1]
  | .setLane => [1, 2, 2, 1, 2, 2, 2, 1, 1, 2, 3, 3]
  | .armLane => [1, 1]
  | .clearLane => [1]
  | .setSpot => [2, 2, 1, 1, 2, 2, 1, 2]
  | .setStreak => [1, 2, 2, 1, 2, 3]
  | .setClips => [1, 1, 1, 2]
  | .loadTable => [1, 1]
  | .readTable => [1, 1]
  | .setPriority => [1, 1]
  | .setFaultAction => [1, 1]
  | .setAttention => [1, 1]
  | .readTrack => [1]
  | .readClip => [1, 2, 1]
  | .releaseTrack => [1]
  | .ident | .readStatus | .reset | .clearFault | .start | .stop | .splice | .listTracks => []

/-- Whether a payload has the length of Table LXIX for the request (R162 step 3). A LOAD_TABLE too short to hold its table
field fails; one whose table field is neither DARK nor GAIN passes, and FFC refuses it later. -/
def Request.lengthOk (r : Request) (payload : List Byte) : Bool :=
  match r, payload with
  | .loadTable, [] => false
  | .loadTable, t :: rest =>
    if t.toNat = 0 then rest.length == 257 else if t.toNat = 1 then rest.length == 513 else true
  | r, p => p.length == r.fieldWidths.sum

/-- The command that an opcode-table word spells. No row of spec/opcode_table.json gives bits, so no word spells one
(log 23). -/
def decodeTableWord (_nbits _w : Nat) : Option Instr := none

end Sys2Proof
end

