-- ==== Sys2Proof/Config.lean ====
section
/-! DEFINITION. The capacities of the part (Table III), its units of time, and the free values the manual leaves open. -/

namespace Sys2Proof.Config

/-- Capacities of Table III. -/
def headCount : Nat := 4
def slotCount : Nat := 8
def laneCount : Nat := 16
def trackCount : Nat := 64
def columnCount : Nat := 8192
def pageCount : Nat := 32
def pageSize : Nat := 256
def clipBlocks : Nat := 1024
def blockWords : Nat := 128
def clipBlockLimit : Nat := 32
def reportQueueSize : Nat := 128
def requestQueueSize : Nat := 4
def replyBufferSize : Nat := 4
def payloadLimit : Nat := 1024
/-- The most runs a line's run list holds (R84). -/
def runLimit : Nat := 256
/-- The most pixels of one delivery (R19). -/
def deliveryLimit : Nat := 2048
/-- A raw level of 1023 is saturated (R37). -/
def topLevel : Nat := 1023
/-- The last line number a run can issue, 2^40 − 1 (R7). -/
def lastLineNumber : Nat := 1099511627775
/-- The greatest lag (R4), and the greatest dropped-line, discarded-run and lost-report totals. -/
def top24 : Nat := 16777215
/-- The greatest value of the 16-bit counts. -/
def top16 : Nat := 65535
/-- The greatest area (Table XLVIII) and close serial (R119). -/
def top32 : Nat := 4294967295

/-- The model's clock counts units of 0.1 µs, the unit of the glitch window (R2). -/
def ticksPerMicrosecond : Nat := 10
def ticksPerMillisecond : Nat := 10000
/-- The gap timer runs for 2 ms (R158). -/
def gapTicks : Nat := 20000

/-- FREE VALUE. The code that stands for NONE in a level of a READ_CLIP reply. R139 names the level NONE and no layout of
the manual gives its bytes (log 13). -/
opaque noneLevel : BitVec 16

/-- FREE CHOICE. R160: a freed place of the reply buffer "may be wanted at once both by the held REJECT and by the processing
of the queue's head, and either may take it first". True: the queue's side takes it. The argument is the count of choices
made so far, so each choice is free of the others (log 7). -/
opaque queueFirst : Nat → Bool

/-- FREE CHOICE. R165: a reply and an offered record "may arrive together at an IDLE transmitter, and either may be taken first".
True: the reply is taken first. The argument is the count of choices made so far, as for `queueFirst` (log 7). -/
opaque replyFirst : Nat → Bool

end Sys2Proof.Config
end

