-- ==== Sys2Proof/Machine/State.lean ====
section
/-! DEFINITION. The whole state of the LF4216 as plain data, block by block, the reasons a step can stop, and the state after a
power-on reset. -/

namespace Sys2Proof.Machine

/-! ## Why a step can stop -/

/-- The model stops with a fault nowhere: the part's own faults are state (R178, R180) and every command of the table has an
effect in every state. The type has no constructor. -/
inductive Fault
  deriving DecidableEq, Repr

/-- Why a step is refused. -/
inductive Refusal
  /-- Raised by `exec` alone, for a row that has no meaning yet; safe, since nothing is claimed of such a row. No arm raises
  it now. -/
  | notModelled (mnemonic : String)
  deriving DecidableEq, Repr

/-! ## Named values -/

/-- OFF/ON, NO/YES and the like are `Bool`; these are the other named values, in the order of their tables (R170). -/
inductive Polarity
  | bright
  | dark
  deriving DecidableEq, Repr

/-- The inspection states (R171). -/
inductive Inspection
  | stopped
  | calibrating
  | running
  | stopping
  | faulted
  deriving DecidableEq, Repr

/-- The fault sources of Table LXXVII, in code order. -/
inductive Source
  | encoderGlitch
  | headLate
  | headShort
  | headUnsolicited
  | lineOverrun
  | runOverflow
  | tableFull
  | referenceLow
  | memoryCorrected
  | memoryFatal
  deriving DecidableEq, Repr

/-- The fault actions, lowest first (11.5). -/
inductive Action
  | ignore
  | report
  | mark
  | stop
  deriving DecidableEq, Repr

/-- The last-stop causes (11). -/
inductive StopCause
  | reset
  | request
  | fault (source : Source)
  | lineLimit
  deriving DecidableEq, Repr

/-- The reset causes (R177). -/
inductive ResetCause
  | powerOn
  | pin
  | request
  deriving DecidableEq, Repr

/-- The reasons of a REFUSED reply (Table LXVIII). -/
inductive RefuseReason
  | busy
  | badValue
  | notReady
  | notHeld
  | unknownKind
  | badLength
  | faulted
  deriving DecidableEq, Repr

/-- The reasons of a REJECT reply (Table LXVIII). -/
inductive RejectReason
  | check
  | length
  | truncated
  | queueFull
  deriving DecidableEq, Repr

/-- The reasons of a NOT_READY set, by bit (Table LXVIII). -/
inductive NotReady
  | noHead
  | darkInvalid
  | gainInvalid
  | noLane
  | notConfigured
  deriving DecidableEq, Repr

/-- What an error check shows of a stored word: right, one wrong bit, or two or more (R44, R126, R136). -/
inductive Health
  | good
  | single
  | double
  deriving DecidableEq, Repr

/-- A stored word with the state of its error check. With `single`, `val` is the value the check corrects to. -/
structure Checked (α : Type) where
  val : α
  health : Health
  deriving DecidableEq, Repr

/-! ## ENC (chapter 1) -/

inductive Direction
  | aLeads
  | bLeads
  deriving DecidableEq, Repr

inductive WebState
  | moving
  | halted
  deriving DecidableEq, Repr

/-- The settings of SET_ENCODER (Table VI). -/
structure EncSettings where
  countsPerLine : Nat
  glitchWindow : Nat
  standstillTimeout : Nat
  spliceLines : Nat
  direction : Direction
  deriving DecidableEq, Repr

/-- The encoder unit. Times are clock times in units of 0.1 µs. -/
structure Enc where
  settings : EncSettings
  levelA : Bool
  levelB : Bool
  /-- the time of the last accepted edge -/
  lastEdge : Option Nat
  highWater : Nat
  lag : Nat
  nextLine : Nat
  lineLimit : Bool
  web : WebState
  /-- the standstill timer: its expiry while it runs -/
  standstillExpiry : Option Nat
  standstillStart : Nat
  splicePending : Bool
  suppression : Nat
  /-- the internal line timer: its next expiry while it runs, its period, the triggers remaining -/
  calExpiry : Option Nat
  calPeriod : Nat
  calRemaining : Nat
  deriving DecidableEq, Repr

/-- The levels at the input pins, and the count of LTRIG pulses given. -/
structure Pins where
  encA : Bool
  encB : Bool
  spliceIn : Bool
  ltrigPulses : Nat
  deriving DecidableEq, Repr

/-! ## LNC (chapter 4) -/

/-- SPLICE and INTERRUPTED marks (R68). -/
structure Marks where
  splice : Bool
  interrupted : Bool
  deriving DecidableEq, Repr

inductive LaneState
  | disarmed
  | ready
  | seeking
  | coated
  | gap
  deriving DecidableEq, Repr

inductive LaneChange
  | none
  | arm
  | disarm
  deriving DecidableEq, Repr

/-- The eleven settings of a lane entry (Table XXIV). -/
structure LaneSettings where
  first : Nat
  last : Nat
  guard : Nat
  lo : Nat
  hi : Nat
  bare : Nat
  enter : Nat
  leave : Nat
  leadGuard : Nat
  lengthMin : Nat
  lengthMax : Nat
  deriving DecidableEq, Repr

/-- The record of an open patch (R65). -/
structure Patch where
  start : Nat
  flags : Marks
  spots : Nat
  voids : Nat
  deriving DecidableEq, Repr

/-- A patch that has ended and whose PATCH report is prepared (R67, R71). -/
structure EndedPatch where
  patch : Patch
  endLine : Nat
  deriving DecidableEq, Repr

/-- One entry of the lane table (Table XXIII). -/
structure Lane where
  settings : Option LaneSettings
  state : LaneState
  change : LaneChange
  patchNumber : Nat
  enterRun : Nat
  enterFirst : Nat
  enterMarks : Marks
  bareRun : Nat
  bareFirst : Nat
  bareLast : Nat
  bareLargest : Nat
  bareMarks : Marks
  leadGuard : Nat
  patch : Option Patch
  ended : Option EndedPatch
  deriving DecidableEq, Repr

inductive LaneResult
  | inspected
  | leadGuard
  | bare
  | outOfPatch
  | blind
  | suppressed
  | laneChanged
  deriving DecidableEq, Repr

/-- The lane outcome (Table XXVIII). -/
structure LaneOutcome where
  lane : Nat
  result : LaneResult
  patchNumber : Nat
  patchOpened : Bool
  patchEnd : Bool
  suppressed : Bool
  droppedBefore : Nat
  deriving DecidableEq, Repr

/-! ## SPD and STI (chapters 5 and 6) -/

/-- The run record (Table XXXV). -/
structure Run where
  lane : Nat
  polarity : Polarity
  first : Nat
  last : Nat
  pixels : Nat
  peak : Nat
  saturated : Bool
  deriving DecidableEq, Repr

/-- The alert run record (Table XLII). -/
structure AlertRun where
  lane : Nat
  polarity : Polarity
  first : Nat
  last : Nat
  peak : Nat
  deriving DecidableEq, Repr

/-- The integrator result of an INSPECTED lane (R99): μ is present when the lane is referenced. -/
structure Integrated where
  lane : Nat
  mu : Option Nat
  inBand : Nat
  deriving DecidableEq, Repr

structure Spd where
  brightMargin : Nat
  darkMargin : Nat
  gapTolerance : Nat
  lastLine : Option Nat
  kept : Nat
  discarded : Nat
  overflowLines : Nat
  discardedRuns : Nat
  deriving DecidableEq, Repr

/-- One column of STI: its accumulator, and the sign of its ALERT or none in QUIET (R96, R97). -/
structure ColumnState where
  acc : Int
  alert : Option Polarity
  deriving DecidableEq, Repr

/-- The last result of a lane's reference statistics (R103). -/
structure LastResult where
  line : Nat
  mu : Option Nat
  inBand : Nat
  deriving DecidableEq, Repr

structure LaneStats where
  last : Option LastResult
  unreferenced : Nat
  bright : Nat
  dark : Nat
  greatest : Nat
  deriving DecidableEq, Repr

structure Sti where
  shift : Nat
  tOn : Nat
  tOff : Nat
  columns : Sparse ColumnState
  lanes : List LaneStats
  deriving DecidableEq, Repr

/-! ## LAS (chapter 2) -/

/-- The five settings of one head (Table XI). -/
structure HeadSettings where
  enabled : Bool
  first : Nat
  count : Nat
  refFirst : Nat
  refCount : Nat
  deriving DecidableEq, Repr

/-- What a head owes for a trigger (2.5). -/
inductive Target
  | slot (index : Nat)
  | dropped
  deriving DecidableEq, Repr

/-- The delivery state of a head (Table XIII). In RECEIVING: the slot, the pixels numbered so far and the reference sum. -/
inductive Delivery
  | idle
  | waiting (target : Target)
  | receiving (slot pixels refSum : Nat)
  | discarding (owed : Option Target)
  deriving DecidableEq, Repr

structure Head where
  settings : HeadSettings
  delivery : Delivery
  lastMean : Option Nat
  lowLive : Bool
  deriving DecidableEq, Repr

/-- One head's part of the table geometry record (R22). -/
structure Window where
  enabled : Bool
  first : Nat
  count : Nat
  deriving DecidableEq, Repr

inductive SlotState
  | free
  | assembling
  | complete
  deriving DecidableEq, Repr

inductive LineKind
  | run
  | calibration
  deriving DecidableEq, Repr

/-- A column of a RUN line after correction (R38). -/
inductive Pixel
  | level (v : Nat)
  | saturated
  | excluded
  | noData
  deriving DecidableEq, Repr

/-- The occurrence notes of a slot (Table XII). -/
structure Notes where
  headLate : Bool
  headShort : Bool
  lineOverrun : Bool
  deriving DecidableEq, Repr

/-- A line slot: its record (Table XII), its raw levels by column, and what the stages form for its line. -/
structure Slot where
  state : SlotState
  kind : LineKind
  number : Nat
  suppressed : Bool
  droppedBefore : Nat
  owed : List Nat
  noData : List (Option (Nat × Nat))
  notes : Notes
  degraded : Bool
  claim : Nat
  raw : Sparse Nat
  pixels : List Pixel
  outcomes : List LaneOutcome
  runs : List Run
  alerts : List AlertRun
  integrated : List Integrated
  deriving DecidableEq, Repr

/-- The line in processing (R31): its slot, and the stages it has passed. -/
structure Processing where
  slot : Nat
  lnc : Bool
  spd : Bool
  sti : Bool
  deriving DecidableEq, Repr

structure Las where
  lampSet : Nat
  lampClear : Nat
  heads : List Head
  geometry : List Window
  slots : List Slot
  processing : Option Processing
  pendingDropped : Nat
  pendingOverrun : Bool
  droppedTotal : Nat
  claims : Nat
  deriving DecidableEq, Repr

/-! ## FFC (chapter 3) -/

inductive TableId
  | dark
  | gain
  deriving DecidableEq, Repr

/-- A correction table: its words, and its page-loaded set as a rising list of pages. -/
structure Table where
  words : Sparse (Checked Nat)
  loaded : List Nat
  deriving DecidableEq, Repr

inductive CalKind
  | dark
  | bright
  deriving DecidableEq, Repr

inductive CalMode
  | apply
  | measure
  deriving DecidableEq, Repr

inductive CalResult
  | complete
  | incomplete
  | aborted
  deriving DecidableEq, Repr

/-- The close-out wait (R49): not started, running with its expiry, or expired. -/
inductive CloseOut
  | notStarted
  | running (expiry : Nat)
  | expired
  deriving DecidableEq, Repr

/-- The calibration record (R47). `missing` is a rising list of head indices. -/
structure CalRecord where
  kind : CalKind
  mode : CalMode
  lines : Nat
  period : Nat
  target : Nat
  taken : Nat
  missing : List Nat
  closeOut : CloseOut
  deriving DecidableEq, Repr

/-- A table word's place (R45). -/
structure Location where
  table : TableId
  page : Nat
  index : Nat
  deriving DecidableEq, Repr

structure Ffc where
  dark : Table
  gain : Table
  record : Option CalRecord
  active : Bool
  result : Option CalResult
  sums : Sparse Nat
  lastBad : Option Location
  deriving DecidableEq, Repr

/-! ## TRK and CLS (chapters 7 and 8) -/

inductive TrackState
  | free
  | open
  | held
  deriving DecidableEq, Repr

inductive TrackKind
  | spot
  | streak
  deriving DecidableEq, Repr

inductive Origin
  | run
  | integrator
  | both
  deriving DecidableEq, Repr

inductive CloseCause
  | stopped
  | laneChanged
  | patchEnd
  | sizeLimit
  | gapExceeded
  deriving DecidableEq, Repr

/-- The flags of the detection half (Table XLVIII). -/
structure TrackFlags where
  merged : Bool
  interrupted : Bool
  degraded : Bool
  large : Bool
  deriving DecidableEq, Repr

/-- The flags of the clip half (Table XLIX). -/
structure ClipFlags where
  truncated : Bool
  starved : Bool
  damaged : Bool
  wide : Bool
  deriving DecidableEq, Repr

/-- The clip half of a track record (Table XLIX). -/
structure Clip where
  valid : Bool
  first : Bool
  blocks : List Nat
  wordsUsed : Nat
  rows : Nat
  flags : ClipFlags
  deriving DecidableEq, Repr

/-- First and last column. -/
structure Span where
  lo : Nat
  hi : Nat
  deriving DecidableEq, Repr

/-- A track slot: its state, the detection half (Table XLVIII; its valid flag is "not FREE"), the five working fields, the clip
half, and the words of the record whose check is not right, in reading order (log 9). `matchSpan`, `joined` and `openDue` are
used only within a stage (R110, R111, R118). -/
structure Track where
  state : TrackState
  first : Bool
  kind : TrackKind
  origin : Origin
  lane : Nat
  polarity : Polarity
  patchNumber : Nat
  firstLine : Nat
  lastLine : Nat
  inspected : Nat
  columns : Span
  lastSpan : Span
  gap : Nat
  area : Nat
  peakDeviation : Option Nat
  peakAccumulator : Option Nat
  patchesCrossed : Nat
  tentative : Bool
  flags : TrackFlags
  cause : Option CloseCause
  laneCountAtFirst : Nat
  progressBase : Nat
  patchLast : Nat
  interruptPending : Bool
  serial : Nat
  clip : Clip
  wrongWords : List Health
  matchSpan : Span
  joined : Option Span
  openDue : Bool
  deriving DecidableEq, Repr

structure Trk where
  slots : List Track
  freeList : List Nat
  spotGap : Nat
  minArea : Nat
  promote : Nat
  streakMaxWidth : Nat
  spotMax : Nat
  streakGap : Nat
  streakMin : Nat
  progress : Nat
  keepSpot : Bool
  keepStreak : Bool
  inspected : List Nat
  serial : Nat
  untracked : Nat
  failures : Nat
  deriving DecidableEq, Repr

/-- The clip store. A word holds a number, or `none` for a level of NONE; word `w` of block `b` stands at address
`b × 128 + w`. -/
structure Cls where
  pool : List Nat
  words : Sparse (Checked (Option Nat))
  margin : Nat
  maximum : Nat
  starved : Nat
  truncated : Nat
  deriving DecidableEq, Repr

/-! ## RPQ (chapter 9) -/

/-- The report kinds of Table LX, in code order, which is the order of hardware rank. -/
inductive ReportKind
  | fault
  | queueLoss
  | state
  | void
  | streakOpen
  | spot
  | streakClose
  | streakProgress
  | patch
  | web
  | calibration
  deriving DecidableEq, Repr

/-- A SPOT report (Table LI, R142). The id and the cause are absent when UNTRACKED. -/
structure SpotReport where
  id : Option Nat
  lane : Nat
  polarity : Polarity
  patchNumber : Nat
  firstLine : Nat
  lastLine : Nat
  columns : Span
  area : Nat
  peakDeviation : Nat
  inspected : Nat
  cause : Option CloseCause
  flags : TrackFlags
  untracked : Bool
  clipFlags : ClipFlags
  clipHeld : Bool
  deriving DecidableEq, Repr

/-- A STREAK_CLOSE report (Table LI). -/
structure StreakCloseReport where
  id : Nat
  lane : Nat
  polarity : Polarity
  origin : Origin
  firstLine : Nat
  lastLine : Nat
  columns : Span
  peakDeviation : Option Nat
  peakAccumulator : Option Nat
  inspected : Nat
  patchesCrossed : Nat
  cause : CloseCause
  flags : TrackFlags
  clipFlags : ClipFlags
  clipHeld : Bool
  deriving DecidableEq, Repr

/-- A CALIBRATION report (Table XXI). -/
structure CalReport where
  kind : CalKind
  mode : CalMode
  result : CalResult
  linesUsed : Nat
  dead : Nat
  hot : Nat
  missing : List Nat
  /-- entry minimum, mean and maximum -/
  figures : Option (Nat × Nat × Nat)
  deriving DecidableEq, Repr

/-- The contents of a report (Tables XXI, XXIX, XXX, LI, LXI). -/
inductive Report
  | fault (source : Source) (cleared : Bool) (detail line : Option Nat) (action : Action) (tracksLost : Option Nat)
  | queueLoss (lost : Nat) (kinds : List ReportKind) (lines : Option (Nat × Nat))
  | state (new : Inspection) (cause : StopCause)
  | void (lane patchNumber first last largestBare : Nat)
  | streakOpen (id lane : Nat) (polarity : Polarity) (origin : Origin) (firstLine : Nat) (columns : Span)
      (peakDeviation peakAccumulator : Option Nat)
  | spot (r : SpotReport)
  | streakClose (r : StreakCloseReport)
  | streakProgress (id lastLine : Nat) (columns : Span) (inspected patchesCrossed : Nat)
  | patch (lane patchNumber startLine endLine length spots voids : Nat) (short long : Bool) (marks : Marks)
  | web (resumed : Option Nat) (line : Nat)
  | calibration (r : CalReport)
  deriving DecidableEq, Repr

/-- What a lost-report notice carries (R149): the track id and the close serial. -/
structure Notice where
  id : Nat
  serial : Nat
  deriving DecidableEq, Repr

/-- A report record (R142). `close` is present for a SPOT or STREAK_CLOSE that carries a track id. -/
structure Record where
  report : Report
  priority : Nat
  entry : Nat
  close : Option Notice
  deriving DecidableEq, Repr

structure Rpq where
  queue : List Record
  priority : List Nat
  pendingPriority : List (Option Nat)
  entries : Nat
  tally : Nat
  lostKinds : List ReportKind
  lostLines : Option (Nat × Nat)
  overflow : Bool
  watermark : Nat
  attention : Nat
  deriving DecidableEq, Repr

/-! ## ICT (chapter 11) -/

structure Ict where
  state : Inspection
  lastStop : StopCause
  limitPending : Bool
  resetCause : ResetCause
  resetSeen : Bool
  actions : List Action
  latches : List Bool
  counts : List Nat
  deriving DecidableEq, Repr

/-! ## The status reply (R182) -/

structure SourceStatus where
  action : Option Action
  /-- the set of heads for REFERENCE_LOW -/
  liveHeads : Option (List Nat)
  /-- yes or no for TABLE_FULL -/
  live : Option Bool
  latch : Bool
  count : Nat
  deriving DecidableEq, Repr

structure IctStatus where
  state : Inspection
  lastStop : StopCause
  limitPending : Bool
  resetCause : ResetCause
  resetSeen : Bool
  sources : List SourceStatus
  deriving DecidableEq, Repr

structure EncStatus where
  web : WebState
  haltedMs : Option Nat
  nextLine : Nat
  highWater : Nat
  lag : Nat
  suppression : Nat
  splicePending : Bool
  lineLimit : Bool
  calRemaining : Option Nat
  deriving DecidableEq, Repr

structure HeadStatus where
  enabled : Bool
  delivery : Nat
  lastMean : Option Nat
  lowLive : Bool
  deriving DecidableEq, Repr

structure LasStatus where
  width : Nat
  heads : List HeadStatus
  free : Nat
  assembling : Nat
  complete : Nat
  inProcessing : Bool
  pendingDropped : Nat
  droppedTotal : Nat
  deriving DecidableEq, Repr

structure FfcStatus where
  darkLoaded : List Nat
  darkValid : Bool
  gainLoaded : List Nat
  gainValid : Bool
  lastBad : Option Location
  record : Option CalRecord
  result : Option CalResult
  deriving DecidableEq, Repr

/-- What R74 adds for a lane in COATED. -/
structure CoatedStatus where
  patch : Patch
  leadGuard : Nat
  bareRun : Nat
  bareFirst : Option Nat
  deriving DecidableEq, Repr

structure LaneStatus where
  configured : Bool
  armed : Bool
  change : LaneChange
  state : LaneState
  patchNumber : Nat
  enterRun : Nat
  enterFirst : Option Nat
  coated : Option CoatedStatus
  deriving DecidableEq, Repr

structure SpdStatus where
  brightMargin : Nat
  darkMargin : Nat
  gapTolerance : Nat
  lastLine : Option Nat
  kept : Nat
  discarded : Nat
  overflowLines : Nat
  discardedRuns : Nat
  deriving DecidableEq, Repr

structure StiStatus where
  shift : Nat
  tOn : Nat
  tOff : Nat
  lanes : List LaneStats
  deriving DecidableEq, Repr

structure TrkStatus where
  freeLength : Nat
  freeHead : Option Nat
  opened : Nat
  tentative : Nat
  held : Nat
  untracked : Nat
  failures : Nat
  spot : List Nat
  streak : List Nat
  keepSpot : Bool
  keepStreak : Bool
  deriving DecidableEq, Repr

structure ClsStatus where
  poolLength : Nat
  poolHead : Option Nat
  margin : Nat
  maximum : Nat
  starved : Nat
  truncated : Nat
  deriving DecidableEq, Repr

structure RpqStatus where
  queued : Nat
  /-- the numbers at captured priorities 1, 2 and 3 -/
  byPriority : List Nat
  offered : Option ReportKind
  tally : Nat
  lostKinds : List ReportKind
  lostLines : Option (Nat × Nat)
  overflow : Bool
  overflowLive : Bool
  priority : List Nat
  pendingPriority : List (Option Nat)
  watermark : Nat
  attention : Nat
  attn : Bool
  deriving DecidableEq, Repr

structure LnkStatus where
  requests : Nat
  replies : Nat
  holdOccupied : Bool
  /-- the counts for CHECK, LENGTH, TRUNCATED and QUEUE_FULL -/
  rejects : List Nat
  deriving DecidableEq, Repr

structure Status where
  ict : IctStatus
  enc : EncStatus
  las : LasStatus
  ffc : FfcStatus
  lnc : List LaneStatus
  spd : SpdStatus
  sti : StiStatus
  trk : TrkStatus
  cls : ClsStatus
  rpq : RpqStatus
  lnk : LnkStatus
  deriving DecidableEq, Repr

/-! ## LNK (chapter 10) -/

/-- A row of a READ_CLIP reply (R139). Header items are absent where their words are not readable. -/
structure ClipRow where
  index : Nat
  damaged : Bool
  line : Option Nat
  first : Option Nat
  width : Option Nat
  levels : List (Option Nat)
  deriving DecidableEq, Repr

/-- The contents of a DONE reply, request by request. -/
inductive Done
  | ident
  | readStatus (s : Status)
  | reset
  | clearFault (state : Inspection)
  | start (state : Inspection)
  | stop (state : Inspection) (cause : StopCause)
  | calibrate (record : CalRecord) (width : Nat)
  | setHead (lampSet lampClear : Nat) (heads : List HeadSettings) (width : Nat) (invalidated : Bool)
  | setEncoder (settings : EncSettings)
  | splice (taken : Bool) (lines : Nat)
  | setLane (lane : Nat) (settings : LaneSettings) (effectiveWidth : Nat)
  | armLane (lane : Nat) (armed : Bool) (state : LaneState) (change : LaneChange)
  | clearLane (lane : Nat) (wasConfigured : Bool)
  | setSpot (settings : List Nat)
  | setStreak (settings : List Nat)
  | setClips (keepSpot keepStreak : Bool) (margin maximum : Nat)
  | loadTable (table : TableId) (page pages : Nat) (valid : Bool)
  | readTable (table : TableId) (page : Nat) (inSet : Bool) (uncorrectable : Nat) (entries : List Nat)
  | setPriority (kind : ReportKind) (priority : Nat) (pending : Option Nat)
  | setFaultAction (source : Source) (action : Action)
  | setAttention (watermark attention : Nat) (attn : Bool)
  | readTrack (id : Nat) (track : Track)
  | listTracks (freeLength : Nat) (tracks : List (Nat × TrackState))
  | releaseTrack (id freeLength : Nat)
  | readClip (id : Nat) (state : TrackState) (valid : Bool) (rows blocks : Nat) (flags : ClipFlags) (first : Nat)
      (returned : List ClipRow)
  deriving DecidableEq, Repr

/-- A reply frame without its TAG (R163). `refused` carries the KIND of the request, the reason and the two-byte detail. -/
inductive ReplyBody
  | done (d : Done)
  | refused (kind : Byte) (reason : RefuseReason) (detail : Nat)
  | reject (reason : RejectReason)
  deriving DecidableEq, Repr

structure Reply where
  tag : Byte
  body : ReplyBody
  deriving DecidableEq, Repr

/-- A checked request frame (R159). -/
structure Frame where
  kind : Byte
  tag : Byte
  payload : List Byte
  deriving DecidableEq, Repr

/-- The receiver with the frame being assembled and the running check (Table LXVI). HEADER holds the bytes taken so far. -/
inductive Receiver
  | hunting
  | header (taken : List Byte) (crc : BitVec 16)
  | payload (kind tag : Byte) (length : Nat) (taken : List Byte) (crc : BitVec 16)
  | check (kind tag : Byte) (taken : List Byte) (crc : BitVec 16) (high : Option Byte)
  | held
  deriving DecidableEq, Repr

/-- The request in progress (R161): STOP taken in RUNNING, with its reply once it is produced and waits for a place. -/
structure InProgress where
  tag : Byte
  reply : Option Reply
  deriving DecidableEq, Repr

/-- The frame in transmission (R165). -/
inductive Outgoing
  | reply (r : Reply)
  | report (r : Report)
  deriving DecidableEq, Repr

structure Lnk where
  rx : Receiver
  gapExpiry : Option Nat
  requests : List Frame
  inProgress : Option InProgress
  replies : List Reply
  rejectHold : Option Reply
  resetPending : Bool
  tx : Option Outgoing
  /-- the counts for CHECK, LENGTH, TRUNCATED and QUEUE_FULL -/
  rejects : List Nat
  deriving DecidableEq, Repr

/-! ## The state -/

/-- The state of the part, and the queue of commands waiting. -/
structure State where
  /-- the model's clock, in units of 0.1 µs (log 3) -/
  now : Nat
  /-- the reset in which the part is held while RESET_N is low (R177) -/
  hold : Option ResetCause
  pins : Pins
  enc : Enc
  las : Las
  ffc : Ffc
  lnc : List Lane
  spd : Spd
  sti : Sti
  trk : Trk
  cls : Cls
  rpq : Rpq
  lnk : Lnk
  ict : Ict
  /-- how many free choices have been made (log 7) -/
  choices : Nat
  pending : List Instr
  deriving DecidableEq, Repr

/-! ## The values after a power-on reset -/

/-- Table VII, with the accepted levels and the start of the standstill as given. DESIGN CHOICE (log 38): the period that the stopped
internal line timer keeps is 0. -/
def Enc.reset (levelA levelB : Bool) (now : Nat) : Enc :=
  { settings :=
      { countsPerLine := 8, glitchWindow := 0, standstillTimeout := 500, spliceLines := 200, direction := .aLeads }
    levelA := levelA, levelB := levelB, lastEdge := none, highWater := 0, lag := 0, nextLine := 0, lineLimit := false
    web := .halted, standstillExpiry := none, standstillStart := now, splicePending := false, suppression := 0
    calExpiry := none, calPeriod := 0, calRemaining := 0 }

/-- The default settings of a head (Table XI). -/
def HeadSettings.default : HeadSettings :=
  { enabled := false, first := 0, count := 2048, refFirst := 0, refCount := 0 }

def Head.reset : Head :=
  { settings := HeadSettings.default, delivery := .idle, lastMean := none, lowLive := false }

/-- The default geometry (Table XIV). -/
def Window.default : Window := { enabled := false, first := 0, count := 2048 }

/-- A FREE slot. Its record and levels are lost (R32). -/
def Slot.blank : Slot :=
  { state := .free, kind := .run, number := 0, suppressed := false, droppedBefore := 0, owed := []
    noData := List.replicate 4 none, notes := { headLate := false, headShort := false, lineOverrun := false }
    degraded := false, claim := 0, raw := [], pixels := [], outcomes := [], runs := [], alerts := [], integrated := [] }

/-- Table XIV, with the table geometry record as given. -/
def Las.reset (geometry : List Window) : Las :=
  { lampSet := 0, lampClear := 1, heads := List.replicate 4 Head.reset, geometry := geometry
    slots := List.replicate 8 Slot.blank, processing := none, pendingDropped := 0, pendingOverrun := false
    droppedTotal := 0, claims := 0 }

/-- R56, with the two tables as given. -/
def Ffc.reset (dark gain : Table) : Ffc :=
  { dark := dark, gain := gain, record := none, active := false, result := none, sums := [], lastBad := none }

/-- A table every entry of which holds its default with a fresh check, and whose page-loaded set is empty (R56). -/
def Table.fresh : Table := { words := [], loaded := [] }

def Marks.none : Marks := { splice := false, interrupted := false }

/-- Table XXXI. -/
def Lane.reset : Lane :=
  { settings := none, state := .disarmed, change := .none, patchNumber := 0, enterRun := 0, enterFirst := 0
    enterMarks := Marks.none, bareRun := 0, bareFirst := 0, bareLast := 0, bareLargest := 0, bareMarks := Marks.none
    leadGuard := 0, patch := none, ended := none }

/-- Table XXXVI. -/
def Spd.reset : Spd :=
  { brightMargin := 64, darkMargin := 64, gapTolerance := 0, lastLine := none, kept := 0, discarded := 0
    overflowLines := 0, discardedRuns := 0 }

def LaneStats.reset : LaneStats := { last := none, unreferenced := 0, bright := 0, dark := 0, greatest := 0 }

/-- Table XLIII. -/
def Sti.reset : Sti :=
  { shift := 4, tOn := 1024, tOff := 768, columns := [], lanes := List.replicate 16 LaneStats.reset }

def TrackFlags.none : TrackFlags := { merged := false, interrupted := false, degraded := false, large := false }
def ClipFlags.none : ClipFlags := { truncated := false, starved := false, damaged := false, wide := false }

/-- A cleared clip half (R132). -/
def Clip.blank : Clip :=
  { valid := false, first := false, blocks := [], wordsUsed := 0, rows := 0, flags := ClipFlags.none }

/-- A FREE slot, every field of its record cleared (R106). -/
def Track.blank : Track :=
  { state := .free, first := false, kind := .spot, origin := .run, lane := 0, polarity := .bright, patchNumber := 0
    firstLine := 0, lastLine := 0, inspected := 0, columns := { lo := 0, hi := 0 }, lastSpan := { lo := 0, hi := 0 }
    gap := 0, area := 0, peakDeviation := none, peakAccumulator := none, patchesCrossed := 0, tentative := false
    flags := TrackFlags.none, cause := none, laneCountAtFirst := 0, progressBase := 0, patchLast := 0
    interruptPending := false, serial := 0, clip := Clip.blank, wrongWords := []
    matchSpan := { lo := 0, hi := 0 }, joined := none, openDue := false }

/-- Table LII. -/
def Trk.reset : Trk :=
  { slots := List.replicate 64 Track.blank, freeList := List.range 64, spotGap := 1, minArea := 4, promote := 64
    streakMaxWidth := 8, spotMax := 256, streakGap := 8, streakMin := 200, progress := 0, keepSpot := true
    keepStreak := false, inspected := List.replicate 16 0, serial := 0, untracked := 0, failures := 0 }

/-- Table LVII. The words the blocks hold are not read again before they are written (R141). -/
def Cls.reset : Cls :=
  { pool := List.range 1024, words := [], margin := 2, maximum := 64, starved := 0, truncated := 0 }

/-- Table LXIV, with the default priorities of Table LX. -/
def Rpq.reset : Rpq :=
  { queue := [], priority := [3, 3, 3, 2, 2, 2, 2, 1, 1, 1, 2], pendingPriority := List.replicate 11 none, entries := 0
    tally := 0, lostKinds := [], lostLines := none, overflow := false, watermark := 96, attention := 3 }

/-- R168. -/
def Lnk.reset : Lnk :=
  { rx := .hunting, gapExpiry := none, requests := [], inProgress := none, replies := [], rejectHold := none
    resetPending := false, tx := none, rejects := [0, 0, 0, 0] }

/-- R177, with the default actions of Table LXXVII. -/
def Ict.reset (cause : ResetCause) : Ict :=
  { state := .stopped, lastStop := .reset, limitPending := false, resetCause := cause, resetSeen := true
    actions := [.report, .mark, .mark, .report, .mark, .mark, .report, .mark, .ignore]
    latches := List.replicate 10 false, counts := List.replicate 10 0 }

/-- The part right after a power-on reset (R177). The input levels are DESIGN CHOICE low (log 12) and the clock DESIGN CHOICE 0
(log 3). -/
def State.reset : State :=
  { now := 0, hold := none
    pins := { encA := false, encB := false, spliceIn := false, ltrigPulses := 0 }
    enc := Enc.reset false false 0
    las := Las.reset (List.replicate 4 Window.default)
    ffc := Ffc.reset Table.fresh Table.fresh
    lnc := List.replicate 16 Lane.reset
    spd := Spd.reset, sti := Sti.reset, trk := Trk.reset, cls := Cls.reset, rpq := Rpq.reset, lnk := Lnk.reset
    ict := Ict.reset .powerOn
    choices := 0, pending := [] }

end Sys2Proof.Machine
end

