-- ==== Sys2Proof/Machine/Operands.lean ====
section
/-! DEFINITION. Reading the operands of a request from its payload, the codes of named values, and the frame check. -/

namespace Sys2Proof.Machine

/-! ## Bytes and numbers (R170) -/

/-- The number that bytes hold, least significant byte first. -/
def leNat : List Byte → Nat
  | [] => 0
  | b :: bs => b.toNat + 256 * leNat bs

/-- `n` bytes of a number, least significant byte first. -/
def leBytes : Nat → Nat → List Byte
  | 0, _ => []
  | n + 1, v => BitVec.ofNat 8 v :: leBytes n (v / 256)

/-- The numbers that a payload holds, one per field, each field of the width given. -/
def readFields : List Nat → List Byte → List Nat
  | [], _ => []
  | w :: ws, bytes => leNat (bytes.take w) :: readFields ws (bytes.drop w)

/-- The index of the first field whose check fails, where the checks stand in field order. -/
def firstFailing (checks : List Bool) : Option Nat := checks.findIdx? (fun ok => !ok)

/-- Whether a value lies in `lo..hi`. -/
def inRange (lo hi v : Nat) : Bool := decide (lo ≤ v ∧ v ≤ hi)

/-- Whether a byte holds one of the two codes of a two-valued field. -/
def isCode2 (v : Nat) : Bool := decide (v ≤ 1)

/-! ## The frame check (R157) -/

/-- One bit of the CRC-16 with the generator polynomial 1021 (hex). -/
def crcShift (crc : BitVec 16) : BitVec 16 :=
  if crc.msb then (crc <<< 1) ^^^ 0x1021#16 else crc <<< 1

def crcShifts : Nat → BitVec 16 → BitVec 16
  | 0, crc => crc
  | n + 1, crc => crcShifts n (crcShift crc)

/-- A byte folded into the running check, most significant bit first. -/
def crcFold (crc : BitVec 16) (b : Byte) : BitVec 16 := crcShifts 8 (crc ^^^ (b.zeroExtend 16 <<< 8))

/-- The running check starts at FFFF (hex). -/
def crcStart : BitVec 16 := 0xFFFF#16

/-- The check over some bytes. -/
def crcOf (bytes : List Byte) : BitVec 16 := bytes.foldl crcFold crcStart

/-- SYNC, A5 (hex). -/
def syncByte : Byte := 0xA5#8

/-- The two bytes of a check, high byte first. -/
def checkBytes (crc : BitVec 16) : List Byte :=
  [(crc >>> 8).truncate 8, crc.truncate 8]

/-- The bytes of a frame (Table LXX). DESIGN CHOICE (log 39): a payload above 1,024 bytes, which a READ_STATUS reply can have, is sent
whole, with its length. -/
def frameBytes (kind tag : Byte) (payload : List Byte) : List Byte :=
  let body := kind :: tag :: (leBytes 2 payload.length ++ payload)
  syncByte :: body ++ checkBytes (crcOf body)

/-! ## Codes of named values (R170, Table LXVIII, Table LXXVII) -/

def boolCode (b : Bool) : Nat := if b then 1 else 0

def Polarity.code : Polarity → Nat
  | .bright => 0
  | .dark => 1

def Inspection.code : Inspection → Nat
  | .stopped => 0
  | .calibrating => 1
  | .running => 2
  | .stopping => 3
  | .faulted => 4

def Source.code : Source → Nat
  | .encoderGlitch => 0
  | .headLate => 1
  | .headShort => 2
  | .headUnsolicited => 3
  | .lineOverrun => 4
  | .runOverflow => 5
  | .tableFull => 6
  | .referenceLow => 7
  | .memoryCorrected => 8
  | .memoryFatal => 9

/-- The ten sources in code order (Table LXXVII). -/
def Source.all : List Source :=
  [.encoderGlitch, .headLate, .headShort, .headUnsolicited, .lineOverrun, .runOverflow, .tableFull, .referenceLow,
   .memoryCorrected, .memoryFatal]

/-- The settable source of a code 00..08 (R179). -/
def Source.ofCode (c : Nat) : Option Source := (Source.all.take 9)[c]?

def Action.code : Action → Nat
  | .ignore => 0
  | .report => 1
  | .mark => 2
  | .stop => 3

def Action.ofCode (c : Nat) : Option Action := [Action.ignore, .report, .mark, .stop][c]?

def StopCause.code : StopCause → Nat
  | .reset => 0
  | .request => 1
  | .fault _ => 2
  | .lineLimit => 3

def StopCause.source? : StopCause → Option Source
  | .fault s => some s
  | _ => none

def ResetCause.code : ResetCause → Nat
  | .powerOn => 0
  | .pin => 1
  | .request => 2

def RefuseReason.code : RefuseReason → Nat
  | .busy => 1
  | .badValue => 2
  | .notReady => 3
  | .notHeld => 4
  | .unknownKind => 5
  | .badLength => 6
  | .faulted => 7

def RejectReason.code : RejectReason → Nat
  | .check => 1
  | .length => 2
  | .truncated => 3
  | .queueFull => 4

def NotReady.bit : NotReady → Nat
  | .noHead => 0
  | .darkInvalid => 1
  | .gainInvalid => 2
  | .noLane => 3
  | .notConfigured => 4

def Direction.code : Direction → Nat
  | .aLeads => 0
  | .bLeads => 1

def WebState.code : WebState → Nat
  | .moving => 0
  | .halted => 1

def LaneState.code : LaneState → Nat
  | .disarmed => 0
  | .ready => 1
  | .seeking => 2
  | .coated => 3
  | .gap => 4

def LaneChange.code : LaneChange → Nat
  | .none => 0
  | .arm => 1
  | .disarm => 2

/-- A delivery state in the order of Table XIII. -/
def Delivery.code : Delivery → Nat
  | .idle => 0
  | .waiting _ => 1
  | .receiving .. => 2
  | .discarding _ => 3

def TableId.code : TableId → Nat
  | .dark => 0
  | .gain => 1

def TableId.ofCode : Nat → Option TableId
  | 0 => some .dark
  | 1 => some .gain
  | _ => none

def CalKind.code : CalKind → Nat
  | .dark => 0
  | .bright => 1

def CalMode.code : CalMode → Nat
  | .apply => 0
  | .measure => 1

def CalResult.code : CalResult → Nat
  | .complete => 0
  | .incomplete => 1
  | .aborted => 2

def TrackState.code : TrackState → Nat
  | .free => 0
  | .open => 1
  | .held => 2

def TrackKind.code : TrackKind → Nat
  | .spot => 0
  | .streak => 1

/-- The origin as Table LXXII codes it. -/
def Origin.code : Origin → Nat
  | .run => 1
  | .integrator => 2
  | .both => 3

/-- The close cause as Table LXXI codes it; 00 is an absent cause. -/
def CloseCause.code : CloseCause → Nat
  | .stopped => 1
  | .laneChanged => 2
  | .patchEnd => 3
  | .sizeLimit => 4
  | .gapExceeded => 5

/-- The place of a report kind in Table LX, 0..10; its code is 80 (hex) more and its hardware rank 1 more. -/
def ReportKind.index : ReportKind → Nat
  | .fault => 0
  | .queueLoss => 1
  | .state => 2
  | .void => 3
  | .streakOpen => 4
  | .spot => 5
  | .streakClose => 6
  | .streakProgress => 7
  | .patch => 8
  | .web => 9
  | .calibration => 10

def ReportKind.all : List ReportKind :=
  [.fault, .queueLoss, .state, .void, .streakOpen, .spot, .streakClose, .streakProgress, .patch, .web, .calibration]

/-- The report kind of a code 80..8A (hex). -/
def ReportKind.ofCode (c : Nat) : Option ReportKind := if c < 0x80 then none else ReportKind.all[c - 0x80]?

def Report.kind : Report → ReportKind
  | .fault .. => .fault
  | .queueLoss .. => .queueLoss
  | .state .. => .state
  | .void .. => .void
  | .streakOpen .. => .streakOpen
  | .spot _ => .spot
  | .streakClose _ => .streakClose
  | .streakProgress .. => .streakProgress
  | .patch .. => .patch
  | .web .. => .web
  | .calibration _ => .calibration

/-- The reference line of a report (Table LX). -/
def Report.referenceLine : Report → Option Nat
  | .fault _ _ _ line _ _ => line
  | .queueLoss .. => none
  | .state .. => none
  | .void _ _ _ last _ => some last
  | .streakOpen _ _ _ _ firstLine _ _ _ => some firstLine
  | .spot r => some r.lastLine
  | .streakClose r => some r.lastLine
  | .streakProgress _ lastLine _ _ _ => some lastLine
  | .patch _ _ _ endLine _ _ _ _ _ _ => some endLine
  | .web _ line => some line
  | .calibration _ => none

/-- The request that a DONE answers. -/
def Done.request : Done → Request
  | .ident => .ident
  | .readStatus _ => .readStatus
  | .reset => .reset
  | .clearFault _ => .clearFault
  | .start _ => .start
  | .stop .. => .stop
  | .calibrate .. => .calibrate
  | .setHead .. => .setHead
  | .setEncoder _ => .setEncoder
  | .splice .. => .splice
  | .setLane .. => .setLane
  | .armLane .. => .armLane
  | .clearLane .. => .clearLane
  | .setSpot _ => .setSpot
  | .setStreak _ => .setStreak
  | .setClips .. => .setClips
  | .loadTable .. => .loadTable
  | .readTable .. => .readTable
  | .setPriority .. => .setPriority
  | .setFaultAction .. => .setFaultAction
  | .setAttention .. => .setAttention
  | .readTrack .. => .readTrack
  | .listTracks .. => .listTracks
  | .releaseTrack .. => .releaseTrack
  | .readClip .. => .readClip

end Sys2Proof.Machine
end

