-- ==== Sys2Proof/Machine/Flags.lean ====
section
/-! DEFINITION. The conditions that rules compute from the state: validity of tables, live fault conditions, the armed flag,
valid columns, ATTN, and which requests an inspection state accepts. -/

namespace Sys2Proof.Machine

/-! ## Heads, width and columns (R20) -/

/-- The head of an index 0..3. -/
def Las.head (l : Las) (h : Nat) : Head := l.heads.getD h Head.reset

/-- The used window counts of some heads, over the enabled ones. -/
def enabledWidth (heads : List HeadSettings) : Nat := ((heads.filter (·.enabled)).map (·.count)).sum

def Las.headSettings (l : Las) : List HeadSettings := l.heads.map (·.settings)

/-- W (R20). -/
def Las.width (l : Las) : Nat := enabledWidth l.headSettings

/-- The base column of a head (R20). -/
def Las.base (l : Las) (h : Nat) : Nat := enabledWidth (l.headSettings.take h)

/-- The indices of the enabled heads, rising. -/
def Las.enabledHeads (l : Las) : List Nat := (List.range 4).filter (fun h => (l.head h).settings.enabled)

/-- The slot of an index 0..7. -/
def Las.slot (l : Las) (i : Nat) : Slot := l.slots.getD i Slot.blank

/-- The part of the geometry record that some head settings give (R22). -/
def geometryOf (heads : List HeadSettings) : List Window :=
  heads.map (fun h => { enabled := h.enabled, first := h.first, count := h.count })

/-! ## Tables (R39) -/

/-- The pages a table needs for a width: every page p with p × 256 less than W. -/
def neededPages (width : Nat) : List Nat := (List.range 32).filter (fun p => decide (p * 256 < width))

/-- Whether a table is VALID for a width (R39). -/
def Table.valid (t : Table) (width : Nat) : Bool := (neededPages width).all (fun p => decide (p ∈ t.loaded))

/-! ## Fault conditions (11.5) -/

/-- The action in force of a source; that of MEMORY_FATAL is fixed and counts as STOP (R180). -/
def Ict.action (i : Ict) (src : Source) : Action := i.actions.getD src.code .stop

/-- REPORT and above: the action posts reports. -/
def Action.reports : Action → Bool
  | .ignore => false
  | .report | .mark | .stop => true

/-- MARK and above: the action marks lines. -/
def Action.marks : Action → Bool
  | .ignore | .report => false
  | .mark | .stop => true

/-- The live set of REFERENCE_LOW: the heads whose lamp is low (R34). -/
def Las.lowHeads (l : Las) : List Nat := (List.range 4).filter (fun h => (l.head h).lowLive)

/-- The live part of TABLE_FULL: the free list is empty (R106). -/
def Trk.full (t : Trk) : Bool := t.freeList.isEmpty

/-- Whether a slot completing with these notes is DEGRADED (R29). -/
def degradedAtCompletion (notes : Notes) (s : State) : Bool :=
  (notes.headLate && (s.ict.action .headLate).marks) ||
  (notes.headShort && (s.ict.action .headShort).marks) ||
  (notes.lineOverrun && (s.ict.action .lineOverrun).marks) ||
  (!s.las.lowHeads.isEmpty && (s.ict.action .referenceLow).marks) ||
  (s.trk.full && (s.ict.action .tableFull).marks)

/-! ## Lanes (R61, R63, R64) -/

def lane (s : State) (i : Nat) : Lane := s.lnc.getD i Lane.reset

/-- The armed flag (R61). -/
def Lane.armed (l : Lane) : Bool :=
  match l.state with
  | .ready | .seeking | .coated | .gap => true
  | .disarmed => l.change == .arm

/-- The lane is in SEEKING, COATED or GAP: LNC classifies it on RUN lines (Table XXVI). -/
def Lane.active (l : Lane) : Bool :=
  match l.state with
  | .seeking | .coated | .gap => true
  | .disarmed | .ready => false

def LaneSettings.effectiveWidth (c : LaneSettings) : Nat := c.last + 1 - c.first - 2 * c.guard

/-- The corrected level of a valid column; none where the column is excluded or no-data (R38). -/
def Pixel.level? : Pixel → Option Nat
  | .level v => some v
  | .saturated => some 1023
  | .excluded => none
  | .noData => none

def Pixel.isSaturated : Pixel → Bool
  | .saturated => true
  | .level _ | .excluded | .noData => false

/-- A valid column: its number, its corrected level and its saturated mark. -/
structure ValidColumn where
  column : Nat
  level : Nat
  saturated : Bool
  deriving DecidableEq, Repr

/-- The valid columns among pixels that stand from column `c` on. -/
def validFrom : Nat → List Pixel → List ValidColumn
  | _, [] => []
  | c, p :: ps =>
    match p.level? with
    | some v => { column := c, level := v, saturated := p.isSaturated } :: validFrom (c + 1) ps
    | none => validFrom (c + 1) ps

/-- The valid columns of a lane on a line, from the lowest to the highest (R63). -/
def validColumns (c : LaneSettings) (pixels : List Pixel) : List ValidColumn :=
  validFrom (c.first + c.guard) ((pixels.drop (c.first + c.guard)).take c.effectiveWidth)

/-- The bare count (R63). -/
def bareCount (c : LaneSettings) (cols : List ValidColumn) : Nat := (cols.filter (fun v => decide (c.bare ≤ v.level))).length

inductive LineClass
  | blind
  | bare
  | coated
  deriving DecidableEq, Repr

/-- The class of a line from the number of valid columns and the bare count (R64). -/
def classify (n bare : Nat) : LineClass := if n = 0 then .blind else if n ≤ 2 * bare then .bare else .coated

/-! ## Attention (R153) -/

/-- ATTN is asserted. -/
def State.attn (s : State) : Bool :=
  decide (s.rpq.watermark ≤ s.rpq.queue.length) ||
  s.rpq.queue.any (fun r => decide (s.rpq.attention ≤ r.priority)) ||
  s.ict.state == .faulted

/-! ## Acceptance of requests (Table LXVII, R172, R174) -/

/-- The state check of a request: none when the inspection state takes it (R162 step 2). -/
def refusedByState (r : Request) (st : Inspection) : Option RefuseReason :=
  match r with
  | .ident | .readStatus | .reset | .clearFault => none
  | .setHead | .setEncoder | .setSpot | .setStreak | .setClips | .calibrate | .start =>
    match st with
    | .stopped => none
    | .faulted => some .faulted
    | .calibrating | .running | .stopping => some .busy
  | .loadTable =>
    match st with
    | .stopped | .faulted => none
    | .calibrating | .running | .stopping => some .busy
  | .setLane | .clearLane | .readTable | .armLane | .splice | .setPriority | .setAttention | .setFaultAction | .readTrack
  | .listTracks | .releaseTrack | .readClip | .stop =>
    match st with
    | .faulted => some .faulted
    | .stopped | .calibrating | .running | .stopping => none

end Sys2Proof.Machine
end

