-- ==== Sys2Proof/Machine/Ops.lean ====
section
/-! DEFINITION. The shared operations: sparse memories, the report queue's taking of a report, lost-report notices, fault
occurrences, MEMORY_FATAL, changes of inspection state, the STOP procedure's entry, the freeing of slots and tracks, and the
end of a line's processing. -/

namespace Sys2Proof.Machine

/-! ## Sparse memories -/

/-- The contents at an address; `d` is what an unlisted address reads as. -/
def Sparse.get {α : Type} (d : α) : Sparse α → Nat → α
  | [], _ => d
  | (k, v) :: rest, a => if k = a then v else if a < k then d else Sparse.get d rest a

/-- The memory with address `a` holding `v`; writing the default removes the entry. -/
def Sparse.set {α : Type} [DecidableEq α] (d : α) : Sparse α → Nat → α → Sparse α
  | [], a, v => if v = d then [] else [(a, v)]
  | (k, w) :: rest, a, v =>
    if a = k then (if v = d then rest else (a, v) :: rest)
    else if a < k then (if v = d then (k, w) :: rest else (a, v) :: (k, w) :: rest)
    else (k, w) :: Sparse.set d rest a v

/-- The canonical form from an address on: addresses at least `lo` and strictly rising, and no entry equal to the default. -/
def Sparse.wfFrom {α : Type} [DecidableEq α] (d : α) : Nat → Sparse α → Bool
  | _, [] => true
  | lo, (k, v) :: rest => decide (lo ≤ k) && decide (v ≠ d) && Sparse.wfFrom d (k + 1) rest

/-- The canonical form of a memory. -/
def Sparse.wf {α : Type} [DecidableEq α] (d : α) (m : Sparse α) : Bool := Sparse.wfFrom d 0 m

/-- What an unlisted word of the dark table and of the gain table reads as (R56). -/
def TableId.defaultWord : TableId → Checked Nat
  | .dark => { val := 0, health := .good }
  | .gain => { val := 4096, health := .good }

/-- What a clip word that nothing has written holds; such a word is not read (R141, log 25). -/
def clipDefault : Checked (Option Nat) := { val := some 0, health := .good }

/-- A column of STI after zeroing (R101). -/
def quietColumn : ColumnState := { acc := 0, alert := none }

/-- The canonical form of every memory of the part. -/
def State.memoryWf (s : State) : Bool :=
  Sparse.wf TableId.dark.defaultWord s.ffc.dark.words && Sparse.wf TableId.gain.defaultWord s.ffc.gain.words &&
  Sparse.wf 0 s.ffc.sums && Sparse.wf quietColumn s.sti.columns && Sparse.wf clipDefault s.cls.words &&
  s.las.slots.all (fun sl => Sparse.wf 0 sl.raw)

/-- A number joins a rising list once. -/
def insertRising (n : Nat) : List Nat → List Nat
  | [] => [n]
  | m :: rest => if n < m then n :: m :: rest else if n = m then m :: rest else m :: insertRising n rest

/-! ## Places in the state -/

def State.setHead (s : State) (h : Nat) (hd : Head) : State := { s with las := { s.las with heads := s.las.heads.set h hd } }

def State.setSlot (s : State) (i : Nat) (sl : Slot) : State := { s with las := { s.las with slots := s.las.slots.set i sl } }

def State.setLane (s : State) (i : Nat) (l : Lane) : State := { s with lnc := s.lnc.set i l }

/-- The track slot of an id. -/
def Trk.slot (t : Trk) (id : Nat) : Track := t.slots.getD id Track.blank

def State.track (s : State) (id : Nat) : Track := s.trk.slot id

def State.setTrack (s : State) (id : Nat) (t : Track) : State := { s with trk := { s.trk with slots := s.trk.slots.set id t } }

/-- Go on only while no MEMORY_FATAL has been taken: a stage ends at the point at which one is (R109, R180). -/
def State.unlessFaulted (s : State) (f : State → State) : State := if s.ict.state = .faulted then s else f s

/-! ## The report queue (R145 to R151) -/

/-- Whether record `a` goes before record `b` by priority, then hardware rank, then age (R150). -/
def Record.before (a b : Record) : Bool :=
  decide (b.priority < a.priority) ||
  (decide (a.priority = b.priority) &&
    (decide (a.report.kind.index < b.report.kind.index) ||
      (decide (a.report.kind = b.report.kind) && decide (a.entry < b.entry))))

/-- The record of a non-empty list that goes before the others, or with `before` turned round, after them. -/
def pick (before : Record → Record → Bool) : List Record → Option Record
  | [] => none
  | r :: rest =>
    match pick before rest with
    | none => some r
    | some q => if before q r then some q else some r

/-- The record offered to the link port (R150). -/
def Rpq.offered (q : Rpq) : Option Record := pick Record.before q.queue

/-- The record that eviction takes: least captured priority, of those lowest hardware rank, of those the youngest (R147). -/
def Rpq.victim (q : Rpq) : Option Record := pick (fun a b => Record.before b a) q.queue

/-- The priority in force of a kind. -/
def Rpq.priorityOf (q : Rpq) (k : ReportKind) : Nat := q.priority.getD k.index 0

/-- A report enters the queue with the next entry serial (R146). -/
def Rpq.enter (q : Rpq) (p : Nat) (r : Report) (close : Option Notice) : Rpq :=
  { q with
    entries := q.entries + 1
    queue := q.queue ++ [{ report := r, priority := p, entry := q.entries + 1, close := close }] }

/-- The lost lines after one more reference line (R148). -/
def widenLost (b : Option (Nat × Nat)) : Option Nat → Option (Nat × Nat)
  | none => b
  | some line =>
    match b with
    | none => some (line, line)
    | some (lo, hi) => some (min lo line, max hi line)

/-- One report is lost (R148). -/
def Rpq.lose (q : Rpq) (r : Report) : Rpq :=
  { q with
    tally := satAdd Config.top24 q.tally 1
    lostKinds := if r.kind ∈ q.lostKinds then q.lostKinds else q.lostKinds ++ [r.kind]
    lostLines := widenLost q.lostLines r.referenceLine
    overflow := true }

/-- RPQ takes one report, and says which lost-report notice that raises (R145, R146, R147, R149). -/
def Rpq.take (q : Rpq) (r : Report) (close : Option Notice) : Rpq × Option Notice :=
  let p := q.priorityOf r.kind
  if p = 0 then (q, close)
  else if q.queue.length < Config.reportQueueSize then (q.enter p r close, none)
  else
    match q.victim with
    | some v =>
      if v.priority < p then
        ((Rpq.lose { q with queue := q.queue.erase v } v.report).enter p r close, v.close)
      else (q.lose r, close)
    | none => (q.lose r, close)

/-- A record leaves the queue for transmission; with the tally above 0, QUEUE_LOSS takes its place (R151). -/
def Rpq.leave (q : Rpq) (v : Record) : Rpq :=
  let q1 := { q with queue := q.queue.erase v }
  if q.tally = 0 then q1
  else
    { q1.enter (q.priorityOf .queueLoss) (.queueLoss q.tally q.lostKinds q.lostLines) none with
      tally := 0, lostKinds := [], lostLines := none }

/-- The pending priority of every kind comes into force (R144). -/
def Rpq.applyPending (q : Rpq) : Rpq :=
  { q with
    priority := List.zipWith (fun p n => n.getD p) q.priority q.pendingPriority
    pendingPriority := q.pendingPriority.map (fun _ => none) }

/-! ## Freeing (R32, R106, R127, R132) -/

/-- A track slot is freed: its record cleared, its blocks back in the pool, its id at the tail of the free list (R106, R132). -/
def State.freeTrack (s : State) (id : Nat) : State :=
  let t := s.track id
  { s with
    trk := { s.trk with slots := s.trk.slots.set id Track.blank, freeList := s.trk.freeList ++ [id] }
    cls := { s.cls with pool := s.cls.pool ++ t.clip.blocks } }

/-- The number of slots that are not FREE. -/
def Trk.inUse (t : Trk) : Nat := (t.slots.filter (fun x => x.state ≠ .free)).length

/-- Drop all (R127): every slot FREE, the free list and the block pool rebuilt. -/
def State.dropAll (s : State) : State :=
  { s with
    trk := { s.trk with slots := List.replicate 64 Track.blank, freeList := List.range 64 }
    cls := { s.cls with pool := List.range 1024 } }

/-- A head that owed, or was filling, a discarded slot is treated as owing a dropped line (R32). -/
def Delivery.discard (gone : Nat → Bool) : Delivery → Delivery
  | .waiting (.slot j) => if gone j then .waiting .dropped else .waiting (.slot j)
  | .receiving j p r => if gone j then .discarding none else .receiving j p r
  | .discarding (some (.slot j)) => if gone j then .discarding none else .discarding (some (.slot j))
  | .idle => .idle
  | .waiting .dropped => .waiting .dropped
  | .discarding none => .discarding none
  | .discarding (some .dropped) => .discarding (some .dropped)

/-- LAS discards the slots of a condition (R32). -/
def Las.discardSlots (l : Las) (cond : Slot → Bool) : Las :=
  { l with
    slots := l.slots.map (fun sl => if cond sl then Slot.blank else sl)
    heads := l.heads.map (fun h => { h with delivery := h.delivery.discard (fun j => cond (l.slot j)) }) }

/-- The line in processing, if any, is over: its slot is FREE and the pending priorities come into force (R31, R144, R180). -/
def State.releaseLine (s : State) : State :=
  match s.las.processing with
  | none => s
  | some p =>
    { s with
      las := { s.las with slots := s.las.slots.set p.slot Slot.blank, processing := none }
      rpq := s.rpq.applyPending }

/-! ## Lanes at the end of a run (R73) -/

/-- The lane's runs, patch and lead guard are dropped; settings, patch number, state and pending change stay. -/
def Lane.dropRun (l : Lane) : Lane :=
  { l with
    enterRun := 0, enterFirst := 0, enterMarks := Marks.none, bareRun := 0, bareFirst := 0, bareLast := 0
    bareLargest := 0, bareMarks := Marks.none, leadGuard := 0, patch := none, ended := none }

/-- The lane step of the STOP procedure (R73). -/
def Lane.stopStep (l : Lane) : Lane :=
  match l.state with
  | .seeking | .coated | .gap =>
    if l.change = .disarm then { l.dropRun with state := .disarmed, change := .none }
    else { l.dropRun with state := .ready }
  | .disarmed => if l.change = .arm then { l.dropRun with state := .ready, change := .none } else l.dropRun
  | .ready => l.dropRun

/-! ## The end of CALIBRATING (R8, R11) -/

/-- ENC leaves CALIBRATING: the line timer stops, and the standstill timer starts afresh when the web is MOVING. -/
def Enc.leaveCalibrating (e : Enc) (now : Nat) : Enc :=
  { e with
    calExpiry := none, calRemaining := 0
    standstillExpiry :=
      match e.web with
      | .moving => some (now + e.settings.standstillTimeout * Config.ticksPerMillisecond)
      | .halted => none }

/-- The calibration is over with a result: FFC, LAS and ENC leave it; ICT and the report are the caller's. -/
def State.leaveCalibration (s : State) (r : CalResult) : State :=
  { s with
    ffc := { s.ffc with active := false, result := some r }
    las := s.las.discardSlots (fun sl => sl.state ≠ .free && sl.kind == .calibration)
    enc := s.enc.leaveCalibrating s.now }

/-- The ABORTED report of a calibration (R53). -/
def CalRecord.abortedReport (r : CalRecord) : Report :=
  .calibration
    { kind := r.kind, mode := r.mode, result := .aborted, linesUsed := r.taken, dead := 0, hot := 0, missing := r.missing
      figures := none }

/-! ## Occurrences, notices and posts

A post can lose a report, a lost report sends a notice, the notice reads a track record, a wrong word there is a fault occurrence,
and an occurrence can post again (R145, R149, R123, R126, R178). The operations below take the post of the level under
them as an argument; `post` is the level at which the chain has ended (log 16). -/

/-- A source is counted and latched (R178 IGNORE). -/
def Ict.count (i : Ict) (src : Source) : Ict :=
  { i with
    counts := i.counts.set src.code (satAdd Config.top16 (i.counts.getD src.code 0) 1)
    latches := i.latches.set src.code true }

/-- A post: the report, and for a SPOT or STREAK_CLOSE that carries a track id, its close. -/
abbrev Post := Report → Option Notice → State → State

/-- ICT enters an inspection state and posts the STATE report (R171). -/
def enterStateWith (post : Post) (st : Inspection) (s : State) : State :=
  post (.state st s.ict.lastStop) none { s with ict := { s.ict with state := st } }

/-- The STOP procedure begins: STOPPING with its cause, any pending line-limit stop dropped (R173, R175). -/
def beginStopWith (post : Post) (cause : StopCause) (s : State) : State :=
  enterStateWith post .stopping { s with ict := { s.ict with lastStop := cause, limitPending := false } }

/-- ICT takes one occurrence of a settable source (R178). -/
def occurWith (post : Post) (src : Source) (detail line : Option Nat) (s : State) : State :=
  let act := s.ict.action src
  let fresh := !s.ict.latches.getD src.code false
  let s1 := { s with ict := s.ict.count src }
  let s2 := if act.reports && fresh then post (.fault src false detail line act none) none s1 else s1
  if act = .stop ∧ s2.ict.state = .running then beginStopWith post (.fault src) s2 else s2

/-- A reply enters the reply buffer (R161, R164). -/
def State.reply (s : State) (r : Reply) : State := { s with lnk := { s.lnk with replies := s.lnk.replies ++ [r] } }

/-- The request in progress produces its reply: it enters the buffer when a place is free, and otherwise waits for one (R161).
A reply already produced stands. -/
def State.finishRequest (s : State) (body : Done) : State :=
  match s.lnk.inProgress with
  | some { tag := tag, reply := none } =>
    if s.lnk.replies.length < Config.replyBufferSize then
      { s with
        lnk := { s.lnk with replies := s.lnk.replies ++ [{ tag := tag, body := .done body }], inProgress := none } }
    else
      { s with lnk := { s.lnk with inProgress := some { tag := tag, reply := some { tag := tag, body := .done body } } } }
  | some { tag := _, reply := some _ } => s
  | none => s

/-- A calibration in progress ends ABORTED, with its report (R53, R180 step 1). -/
def abortCalibrationWith (post : Post) (s : State) : State :=
  if s.ffc.active then
    match s.ffc.record with
    | some r => post r.abortedReport none (s.leaveCalibration .aborted)
    | none => s.leaveCalibration .aborted
  else s

/-- MEMORY_FATAL (R180). DESIGN CHOICE (log 43): when the ABORTED report's post brings a second MEMORY_FATAL, that one takes the steps
to their end, and the first adds its count alone. -/
def memoryFatalWith (post : Post) (s : State) : State :=
  let s := { s with ict := s.ict.count .memoryFatal }
  if s.ict.state = .faulted then s.dropAll
  else
    (abortCalibrationWith post s.releaseLine).unlessFaulted fun s =>
      let lost := s.trk.inUse
      let s := s.dropAll
      let s := { s with lnc := s.lnc.map Lane.stopStep }
      let s := { s with
        ict := { s.ict with state := .faulted, lastStop := .fault .memoryFatal, limitPending := false } }
      let s := post (.fault .memoryFatal false none none .stop (some lost)) none s
      let s := post (.state .faulted s.ict.lastStop) none s
      s.finishRequest (.stop s.ict.state s.ict.lastStop)

/-- `n` occurrences of MEMORY_CORRECTED, one for each word corrected (R44, R126, R136). -/
def correctedWith (post : Post) : Nat → State → State
  | 0, s => s
  | n + 1, s => correctedWith post n (occurWith post .memoryCorrected none none s)

/-- TRK reads a record, checking its words (R126): those with one wrong bit are written back and reported, up to the first
uncorrectable one, which is MEMORY_FATAL. -/
def readRecordWith (post : Post) (id : Nat) (s : State) : State :=
  let t := s.track id
  let before := t.wrongWords.takeWhile (fun h => h ≠ .double)
  let rest := t.wrongWords.dropWhile (fun h => h ≠ .double)
  if t.wrongWords.isEmpty then s
  else
    let s := s.setTrack id { t with wrongWords := rest }
    let s := correctedWith post (before.countP (fun h => h = .single)) s
    if (s.track id).wrongWords.isEmpty then s else memoryFatalWith post s

/-- TRK takes a lost-report notice (R123). -/
def takeNoticeWith (post : Post) (n : Notice) (s : State) : State :=
  let s := readRecordWith post n.id s
  let t := s.track n.id
  if t.state = .held ∧ t.serial = n.serial then s.freeTrack n.id else s

/-- A report is posted, and a notice it raises is taken (R145, R149), with `inner` for posts that arise from the notice. -/
def postWith (inner : Post) : Post := fun r close s =>
  match s.rpq.take r close with
  | (q, none) => { s with rpq := q }
  | (q, some n) => takeNoticeWith inner n { s with rpq := q }

/-- Posts to a depth: at depth 0 a notice is not followed up. -/
def postDepth : Nat → Post
  | 0 => fun r close s => { s with rpq := (s.rpq.take r close).1 }
  | n + 1 => postWith (postDepth n)

/-- A post. One post can give rise to at most three more, one inside the other, each by a wrong word of a record it frees:
a FAULT for MEMORY_CORRECTED, the STATE report of a stop by that source, and the reports of a MEMORY_FATAL (log 16). -/
def post : Post := postDepth 5

def enterState (st : Inspection) (s : State) : State := enterStateWith post st s
def beginStop (cause : StopCause) (s : State) : State := beginStopWith post cause s
def occur (src : Source) (detail line : Option Nat) (s : State) : State := occurWith post src detail line s
def memoryFatal (s : State) : State := memoryFatalWith post s
def abortCalibration (s : State) : State := abortCalibrationWith post s
def readRecord (id : Nat) (s : State) : State := readRecordWith post id s

/-- REFERENCE_LOW of a head returns to normal (R178): a CLEARED report under REPORT and above. -/
def returnToNormal (head : Nat) (s : State) : State :=
  let act := s.ict.action .referenceLow
  if act.reports then post (.fault .referenceLow true (some head) none act none) none s else s

/-- The processing of a line ends in the normal way; the last line of a run at the line limit begins its stop (R175). -/
def State.endLine (s : State) : State :=
  match s.las.processing with
  | none => s
  | some p =>
    let last := (s.las.slot p.slot).kind == .run && (s.las.slot p.slot).number == Config.lastLineNumber
    let s1 := s.releaseLine
    if last && s1.ict.limitPending && s1.ict.state == .running then beginStop .lineLimit s1 else s1

/-! ## Replies to requests (R163) -/

def State.done (s : State) (tag : Byte) (d : Done) : State := s.reply { tag := tag, body := .done d }

def State.refuse (s : State) (tag kind : Byte) (reason : RefuseReason) (detail : Nat) : State :=
  s.reply { tag := tag, body := .refused kind reason detail }

/-- A BAD_VALUE refusal names the field's index. -/
def State.badValue (s : State) (tag : Byte) (r : Request) (index : Nat) : State := s.refuse tag r.code .badValue index

/-- The two-byte detail of a NOT_READY refusal: its reason set (Table LXVIII). -/
def reasonMask (reasons : List NotReady) : Nat := (reasons.map (fun r => 2 ^ r.bit)).sum

end Sys2Proof.Machine
end

