-- ==== Sys2Proof/Machine/Heads.lean ====
section
/-! DEFINITION. LAS: the line slots, the head deliveries, the lamp monitor, and SET_HEAD (chapter 2). -/

namespace Sys2Proof.Machine

/-! ## Slots -/

/-- The columns of a head's range that hold no data when `filled` of its columns are filled, from the first unfilled one to the
top of the range (R25, R28). -/
def Las.unfilled (l : Las) (h filled : Nat) : Option (Nat × Nat) :=
  let count := (l.head h).settings.count
  if filled < count then some (l.base h + filled, l.base h + count - 1) else none

/-- How many columns of the used window the first `pixels` pixels of a delivery fill. -/
def HeadSettings.filled (c : HeadSettings) (pixels : Nat) : Nat := min (pixels - c.first) c.count

/-- A column of a slot's line is no-data (R38). -/
def Slot.isNoData (sl : Slot) (c : Nat) : Bool :=
  sl.noData.any fun
    | some (lo, hi) => decide (lo ≤ c ∧ c ≤ hi)
    | none => false

/-- The slot becomes COMPLETE when no head owes it any more, and is marked DEGRADED as R29 states. -/
def completeIfSettled (j : Nat) (s : State) : State :=
  let sl := s.las.slot j
  if sl.state = .assembling ∧ sl.owed = [] then
    s.setSlot j { sl with state := .complete, degraded := degradedAtCompletion sl.notes s }
  else s

/-- A head is struck from a slot's heads owed. -/
def strike (j h : Nat) (s : State) : State :=
  let sl := s.las.slot j
  completeIfSettled j (s.setSlot j { sl with owed := sl.owed.filter (· ≠ h) })

/-- A head is late for a slot, with `filled` columns filled (R25). DESIGN CHOICE (log 10): HEAD_LATE is posted before the head is
struck, so that a slot which the strike completes is settled after what the post gives rise to. -/
def late (j h filled : Nat) (s : State) : State :=
  let sl := s.las.slot j
  let s := s.setSlot j
    { sl with
      noData := sl.noData.set h (s.las.unfilled h filled)
      notes := { sl.notes with headLate := true } }
  strike j h (occur .headLate (some h) none s)

/-- The target as it stands: a slot that has been discarded since is passed on as a dropped line. DESIGN CHOICE (log 42): a HEAD_LATE
post of a calibration trigger can bring the MEMORY_FATAL that discards the slot just claimed, and a head that the trigger has not yet
reached then takes a dropped line as its target (R25), where R32 would leave a head in DISCARDING with nothing owed. -/
def Las.liveTarget (l : Las) : Target → Target
  | .slot i => if (l.slot i).state = .assembling then .slot i else .dropped
  | .dropped => .dropped

/-- The head's delivery state becomes what a target makes of it. -/
def setDelivery (h : Nat) (make : Target → Delivery) (t : Target) (s : State) : State :=
  s.setHead h { s.las.head h with delivery := make (s.las.liveTarget t) }

/-- The head goes on in DISCARDING, owing a target. -/
def Delivery.owing (t : Target) : Delivery := .discarding (some t)

/-- A new target reaches an enabled head (R25). -/
def passTarget (t : Target) (h : Nat) (s : State) : State :=
  match (s.las.head h).delivery with
  | .idle => setDelivery h .waiting t s
  | .waiting (.slot j) => setDelivery h .waiting t (late j h 0 s)
  | .waiting .dropped => setDelivery h .waiting t s
  | .receiving j p _ => setDelivery h .owing t (late j h ((s.las.head h).settings.filled p) s)
  | .discarding none => setDelivery h .owing t s
  | .discarding (some (.slot j)) => setDelivery h .owing t (late j h 0 s)
  | .discarding (some .dropped) => setDelivery h .owing t s

/-- The new target reaches every enabled head, lowest index first (R23, R24). -/
def passToHeads (t : Target) (s : State) : State := s.las.enabledHeads.foldl (fun s h => passTarget t h s) s

/-- The lowest-numbered FREE slot. -/
def Las.freeSlot (l : Las) : Option Nat := (List.range 8).find? (fun i => (l.slot i).state == .free)

/-- LAS takes an issued line: it claims a slot, or drops the line (R23, R24). DESIGN CHOICE (log 10): LINE_OVERRUN is taken before the
HEAD_LATE occurrences of the same trigger. -/
def takeLine (kind : LineKind) (number : Nat) (suppressed : Bool) (s : State) : State :=
  match s.las.freeSlot with
  | some i =>
    let sl : Slot :=
      { Slot.blank with
        state := .assembling, kind := kind, number := number, suppressed := suppressed
        droppedBefore := s.las.pendingDropped, owed := s.las.enabledHeads
        notes := { headLate := false, headShort := false, lineOverrun := s.las.pendingOverrun }
        claim := s.las.claims + 1 }
    passToHeads (.slot i)
      { s with
        las := { s.las with
          slots := s.las.slots.set i sl, pendingDropped := 0, pendingOverrun := false, claims := s.las.claims + 1 } }
  | none =>
    let las := { s.las with
      pendingDropped := satAdd Config.top16 s.las.pendingDropped 1
      pendingOverrun := true
      droppedTotal := if kind = .run then satAdd Config.top24 s.las.droppedTotal 1 else s.las.droppedTotal }
    passToHeads .dropped (occur .lineOverrun none none { s with las := las })

/-! ## Deliveries -/

/-- The lamp monitor evaluates a delivery with this mean (R34). -/
def evaluateLamp (h mean : Nat) (s : State) : State :=
  let hd := s.las.head h
  if !hd.lowLive && decide (mean < s.las.lampSet) then
    occur .referenceLow (some h) none (s.setHead h { hd with lastMean := some mean, lowLive := true })
  else if hd.lowLive && decide (s.las.lampClear ≤ mean) then
    returnToNormal h (s.setHead h { hd with lastMean := some mean, lowLive := false })
  else s.setHead h { hd with lastMean := some mean }

/-- The mean of a reference window (R33). -/
def referenceMean (sum count : Nat) : Nat := (sum + count / 2) / count

/-- A delivery in RECEIVING ends (R28). -/
def endDelivery (h j pixels refSum : Nat) (s : State) : State :=
  let c := (s.las.head h).settings
  let kind := (s.las.slot j).kind
  let s :=
    if pixels < c.first + c.count then
      let sl := s.las.slot j
      occur .headShort (some h) none
        (s.setSlot j
          { sl with
            noData := sl.noData.set h (s.las.unfilled h (c.filled pixels))
            notes := { sl.notes with headShort := true } })
    else s
  let s :=
    if 0 < c.refCount ∧ c.refFirst + c.refCount ≤ pixels ∧ kind = .run then
      evaluateLamp h (referenceMean refSum c.refCount) s
    else s
  strike j h (s.setHead h { s.las.head h with delivery := .idle })

/-- A line-start that finds the head IDLE, or DISCARDING with nothing owed (R26). -/
def unsolicited (h : Nat) (s : State) : State :=
  occur .headUnsolicited (some h) none (s.setHead h { s.las.head h with delivery := .discarding none })

/-- A line-start that finds the head WAITING for a target, or DISCARDING with it owed (R26). -/
def startDelivery (h : Nat) (t : Target) (s : State) : State :=
  match t with
  | .slot j => s.setHead h { s.las.head h with delivery := .receiving j 0 0 }
  | .dropped => s.setHead h { s.las.head h with delivery := .discarding none }

/-- HEAD_LINE_START (R19, R26). -/
def lineStart (h : Nat) (s : State) : State :=
  let hd := s.las.head h
  if hd.settings.enabled then
    match hd.delivery with
    | .idle => unsolicited h s
    | .waiting t => startDelivery h t s
    | .receiving j p r => unsolicited h (endDelivery h j p r s)
    | .discarding none => unsolicited h s
    | .discarding (some t) => startDelivery h t s
  else s

/-- HEAD_RAW_LEVEL (R19, R27). -/
def rawLevel (h level : Nat) (s : State) : State :=
  let hd := s.las.head h
  let c := hd.settings
  if c.enabled then
    match hd.delivery with
    | .receiving j p r =>
      if p < Config.deliveryLimit then
        let s :=
          if c.first ≤ p ∧ p < c.first + c.count then
            let sl := s.las.slot j
            s.setSlot j { sl with raw := Sparse.set 0 sl.raw (s.las.base h + p - c.first) level }
          else s
        let r := if c.refFirst ≤ p ∧ p < c.refFirst + c.refCount then r + level else r
        s.setHead h { hd with delivery := .receiving j (p + 1) r }
      else s
    | .idle | .waiting _ | .discarding _ => s
  else s

/-- HEAD_LINE_END (R19, R28). -/
def lineEnd (h : Nat) (s : State) : State :=
  let hd := s.las.head h
  if hd.settings.enabled then
    match hd.delivery with
    | .receiving j p r => endDelivery h j p r s
    | .discarding none => s.setHead h { hd with delivery := .idle }
    | .discarding (some t) => s.setHead h { hd with delivery := .waiting t }
    | .idle | .waiting _ => s
  else s

/-! ## SET_HEAD (R21, R22) -/

/-- The head settings of five fields. -/
def headOfFields (f : List Nat) : HeadSettings :=
  { enabled := f.getD 0 0 = 1, first := f.getD 1 0, count := f.getD 2 0, refFirst := f.getD 3 0, refCount := f.getD 4 0 }

/-- The four heads of the fields 2 to 21. -/
def headsOfFields (f : List Nat) : List HeadSettings :=
  (List.range 4).map (fun n => headOfFields ((f.drop (2 + 5 * n)).take 5))

/-- The checks of one head's five fields (Table XI). -/
def headChecks (f : List Nat) : List Bool :=
  let c := headOfFields f
  [isCode2 (f.getD 0 0), inRange 0 2047 c.first, inRange 1 2048 c.count && decide (c.first + c.count ≤ 2048),
   inRange 0 2047 c.refFirst,
   decide (c.refCount = 0) ||
     (inRange 4 64 c.refCount && decide (c.refFirst + c.refCount ≤ 2048) &&
       decide (c.refFirst + c.refCount ≤ c.first ∨ c.first + c.count ≤ c.refFirst))]

/-- The checks of the 22 fields of SET_HEAD in index order (R21). -/
def setHeadChecks (f : List Nat) : List Bool :=
  [inRange 0 1022 (f.getD 0 0), inRange (f.getD 0 0 + 1) 1023 (f.getD 1 0)] ++
  ((List.range 4).map (fun n => headChecks ((f.drop (2 + 5 * n)).take 5))).flatten

/-- The field that a SET_HEAD too narrow for a configured lane fails on (R21). -/
def narrowIndex (heads : List HeadSettings) : Nat :=
  match ((List.range 4).filter (fun n => (heads.getD n HeadSettings.default).enabled)).getLast? with
  | some n => 4 + 5 * n
  | none => 2

/-- Every configured lane lies within a width (R21). -/
def lanesFit (s : State) (width : Nat) : Bool :=
  s.lnc.all fun l =>
    match l.settings with
    | some c => decide (c.last < width)
    | none => true

/-- A head takes its new settings: its delivery returns to IDLE when any of them changed, and its lamp monitor loses its mean and
its live condition when the enabled field or the reference window changed (R22). -/
def Head.takeSettings (old : Head) (c : HeadSettings) : Head :=
  let lamp := old.settings.enabled ≠ c.enabled ∨ old.settings.refFirst ≠ c.refFirst ∨ old.settings.refCount ≠ c.refCount
  { settings := c
    delivery := if old.settings = c then old.delivery else .idle
    lastMean := if lamp then none else old.lastMean
    lowLive := if lamp then false else old.lowLive }

/-- An accepted SET_HEAD (R22). -/
def loadHeads (lampSet lampClear : Nat) (heads : List HeadSettings) (s : State) : State :=
  let was := s.las.lowHeads
  let changed := decide (geometryOf heads ≠ s.las.geometry)
  let las := { s.las with
    lampSet := lampSet, lampClear := lampClear
    heads := List.zipWith Head.takeSettings s.las.heads heads
    geometry := geometryOf heads }
  let ffc := if changed then
      { s.ffc with dark := { s.ffc.dark with loaded := [] }, gain := { s.ffc.gain with loaded := [] } }
    else s.ffc
  (was.filter (fun h => !(las.head h).lowLive)).foldl (fun s h => returnToNormal h s) { s with las := las, ffc := ffc }

/-- SET_HEAD (R21, R22). DESIGN CHOICE (log 40): an accepted request is answered DONE also when a return to normal that it posts brings
MEMORY_FATAL. -/
def handleSetHead (tag : Byte) (f : List Nat) (s : State) : State :=
  match firstFailing (setHeadChecks f) with
  | some i => s.badValue tag .setHead i
  | none =>
    let heads := headsOfFields f
    if lanesFit s (enabledWidth heads) then
      let invalidated := decide (geometryOf heads ≠ s.las.geometry)
      let s := loadHeads (f.getD 0 0) (f.getD 1 0) heads s
      s.done tag (.setHead s.las.lampSet s.las.lampClear s.las.headSettings s.las.width invalidated)
    else s.badValue tag .setHead (narrowIndex heads)

end Sys2Proof.Machine
end

