-- ==== Sys2Proof/Machine/Encoder.lean ====
section
/-! DEFINITION. ENC: edges, position, line triggers, the web state, splices, the internal line timer, and SET_ENCODER and SPLICE
(chapter 1). -/

namespace Sys2Proof.Machine

/-! ## Quadrature counting (R1) -/

inductive Count
  | forward
  | reverse
  | neither
  deriving DecidableEq, Repr

/-- The pair that follows a pair (A, B) in the forward sequence of A_LEADS, which is the reverse sequence of B_LEADS
(Table IV). -/
def nextPair : Bool × Bool → Bool × Bool
  | (false, false) => (true, false)
  | (true, false) => (true, true)
  | (true, true) => (false, true)
  | (false, true) => (false, false)

/-- How the step from one accepted pair to the next counts (R1, Table IV). -/
def countOf (dir : Direction) (old new : Bool × Bool) : Count :=
  if new = old then .neither
  else if (new == nextPair old) == (dir == .aLeads) then .forward else .reverse

/-- The level at the channel's input pin. -/
def Pins.set (p : Pins) (ch : Channel) (level : Bool) : Pins :=
  match ch with
  | .a => { p with encA := level }
  | .b => { p with encB := level }

/-- The channel's accepted level. -/
def Enc.accept (e : Enc) (ch : Channel) (level : Bool) (now : Nat) : Enc :=
  match ch with
  | .a => { e with levelA := level, lastEdge := some now }
  | .b => { e with levelB := level, lastEdge := some now }

/-- An edge falls inside the glitch window (R2). -/
def Enc.glitch (e : Enc) (now : Nat) : Bool :=
  match e.lastEdge with
  | some t => decide (now - t < e.settings.glitchWindow)
  | none => false

/-! ## Line triggers -/

/-- The suppressed mark of the line being issued, with ENC after it (R14). -/
def Enc.suppress (e : Enc) : Enc × Bool :=
  let count := if e.splicePending then e.settings.spliceLines else e.suppression
  let e := { e with splicePending := false }
  if 0 < count then ({ e with suppression := count - 1 }, true) else ({ e with suppression := 0 }, false)

/-- The next line number advances, or marks the line limit (R5, R7). -/
def Enc.advance (e : Enc) : Enc :=
  if e.nextLine < Config.lastLineNumber then { e with nextLine := e.nextLine + 1 } else { e with lineLimit := true }

def State.pulse (s : State) : State := { s with pins := { s.pins with ltrigPulses := s.pins.ltrigPulses + 1 } }

/-- The standstill timer starts from the full timeout. -/
def Enc.restartStandstill (e : Enc) (now : Nat) : Enc :=
  { e with standstillExpiry := some (now + e.settings.standstillTimeout * Config.ticksPerMillisecond) }

/-- The whole milliseconds of a standstill, saturating (R10, R17). -/
def Enc.standstillMs (e : Enc) (now : Nat) : Nat :=
  min ((now - e.standstillStart) / Config.ticksPerMillisecond) Config.top16

/-- A line trigger event acts on the web state (R9, R10); `line` is the number a RESUMED report carries. -/
def webTrigger (line : Nat) (s : State) : State :=
  match s.enc.web with
  | .moving => { s with enc := s.enc.restartStandstill s.now }
  | .halted =>
    let s1 := { s with enc := { s.enc.restartStandstill s.now with web := .moving } }
    if s.ict.state = .running then post (.web (some (s.enc.standstillMs s.now)) line) none s1 else s1

/-- The line limit notice (R7, R175): held as a pending stop, or taken at once when LAS dropped the line. -/
def limitNotice (dropped : Bool) (s : State) : State :=
  if s.ict.state = .running then
    if dropped then beginStop .lineLimit s else { s with ict := { s.ict with limitPending := true } }
  else s

/-- A line trigger event (R5). DESIGN CHOICE (log 10): the web state takes the event, with any RESUMED report, before LAS takes the
line, with its LINE_OVERRUN or HEAD_LATE, and the line limit notice comes last, so that a LINE_OVERRUN with action STOP stops the run
before the notice does. DESIGN CHOICE (log 42): a line is issued and passed to the heads also when the RESUMED report of its own trigger
brings MEMORY_FATAL. -/
def lineTrigger (s : State) : State :=
  let line := s.enc.nextLine
  if s.ict.state = .running ∧ s.enc.lineLimit = false then
    let (enc, suppressed) := s.enc.advance.suppress
    let s := webTrigger line (State.pulse { s with enc := enc })
    let dropped := s.las.freeSlot.isNone
    let s := takeLine .run line suppressed s
    if line = Config.lastLineNumber then limitNotice dropped s else s
  else webTrigger line s

/-- A forward count (R4). -/
def forwardCount (s : State) : State :=
  let e := s.enc
  if 0 < e.lag then { s with enc := { e with lag := e.lag - 1 } }
  else if e.highWater + 1 < e.settings.countsPerLine then { s with enc := { e with highWater := e.highWater + 1 } }
  else lineTrigger { s with enc := { e with highWater := 0 } }

/-- A reverse count (R4). -/
def reverseCount (s : State) : State := { s with enc := { s.enc with lag := satAdd Config.top24 s.enc.lag 1 } }

/-- ENCODER_EDGE (R1, R2, R3), once the clock and the pin have moved. -/
def edge (ch : Channel) (level : Bool) (s : State) : State :=
  if s.ict.state = .calibrating then { s with enc := s.enc.accept ch level s.now }
  else if s.enc.glitch s.now then occur .encoderGlitch none none s
  else
    let new := s.enc.accept ch level s.now
    match countOf s.enc.settings.direction (s.enc.levelA, s.enc.levelB) (new.levelA, new.levelB) with
    | .neither => { s with enc := new }
    | .forward => forwardCount { s with enc := new }
    | .reverse => reverseCount { s with enc := new }

/-- A command joins the queue of waiting commands, as its last but for one case: an edge on ENC_A that arrives together with the edge
on ENC_B at the end of the queue goes before it (R1). DESIGN CHOICE (log 37): the two edges arrive together when no time and no other
command lies between them; an edge on ENC_A behind another command arrived after the edge on ENC_B. -/
def arrive : List Instr → Instr → List Instr
  | [], c => [c]
  | [.encoderEdge .b levelB elapsed], .encoderEdge .a levelA 0 => [.encoderEdge .a levelA elapsed, .encoderEdge .b levelB 0]
  | q :: rest, c => q :: arrive rest c

/-- The state with a command arrived at its queue. -/
def State.arrives (s : State) (c : Instr) : State := { s with pending := arrive s.pending c }

/-- Time passes on the model's clock (log 3). -/
def State.elapse (s : State) (ticks : Nat) : State := { s with now := s.now + ticks }

/-- The clock reaches a timer's expiry. -/
def State.reach (s : State) (time : Nat) : State := { s with now := max s.now time }

/-- STANDSTILL_TIMER_EXPIRY (R10). With the timer stopped no expiry arises and nothing happens (log 4). -/
def standstillExpiry (s : State) : State :=
  match s.enc.standstillExpiry with
  | none => s
  | some t =>
    let s := s.reach t
    let s := { s with enc := { s.enc with web := .halted, standstillExpiry := none, standstillStart := s.now } }
    if s.ict.state = .running then post (.web none s.enc.nextLine) none s else s

/-- SPLICE_IN (R12). -/
def spliceEdge (rising : Bool) (s : State) : State :=
  let s := { s with pins := { s.pins with spliceIn := rising } }
  if rising ∧ s.ict.state = .running then { s with enc := { s.enc with splicePending := true } } else s

/-- CALIBRATION_TIMER_EXPIRY (R8, and R49 at the N-th line). -/
def calibrationExpiry (s : State) : State :=
  match s.enc.calExpiry with
  | none => s
  | some t =>
    let s := takeLine .calibration 0 false (s.reach t).pulse
    let left := s.enc.calRemaining - 1
    if s.ffc.active = false then s
    else if 0 < left then
      { s with enc := { s.enc with calRemaining := left, calExpiry := some (t + s.enc.calPeriod) } }
    else
      { s with
        enc := { s.enc with calRemaining := 0, calExpiry := none }
        ffc := { s.ffc with
          record := s.ffc.record.map (fun r => { r with closeOut := .running (t + s.enc.calPeriod) }) } }

/-- CLOSE_OUT_WAIT_EXPIRY (R49): the wait has expired. Whether the calibration then completes is decided at the end of the
event. -/
def closeOutExpiry (s : State) : State :=
  match s.ffc.record with
  | some r =>
    match r.closeOut with
    | .running t =>
      if s.ffc.active then
        let s := s.reach t
        { s with ffc := { s.ffc with record := some { r with closeOut := .expired } } }
      else s
    | .notStarted | .expired => s
  | none => s

/-! ## SET_ENCODER and SPLICE -/

/-- The checks of the five fields (Table VI). -/
def setEncoderChecks (f : List Nat) : List Bool :=
  [inRange 1 4096 (f.getD 0 0), inRange 0 255 (f.getD 1 0), inRange 1 2000 (f.getD 2 0), inRange 0 4096 (f.getD 3 0),
   isCode2 (f.getD 4 0)]

def encSettingsOf (f : List Nat) : EncSettings :=
  { countsPerLine := f.getD 0 0, glitchWindow := f.getD 1 0, standstillTimeout := f.getD 2 0, spliceLines := f.getD 3 0
    direction := if f.getD 4 0 = 0 then .aLeads else .bLeads }

/-- SET_ENCODER (R15, R16). -/
def handleSetEncoder (tag : Byte) (f : List Nat) (s : State) : State :=
  match firstFailing (setEncoderChecks f) with
  | some i => s.badValue tag .setEncoder i
  | none =>
    State.done { s with enc := { s.enc with settings := encSettingsOf f, highWater := 0, lag := 0 } } tag
      (.setEncoder (encSettingsOf f))

/-- SPLICE (R12, R13). -/
def handleSplice (tag : Byte) (s : State) : State :=
  let taken := s.ict.state == .running
  State.done { s with enc := { s.enc with splicePending := taken || s.enc.splicePending } } tag
    (.splice taken s.enc.settings.spliceLines)

end Sys2Proof.Machine
end

