-- ==== Sys2Proof/Machine/Correction.lean ====
section
/-! DEFINITION. FFC: the corrected level, the tables and their checks, LOAD_TABLE and READ_TABLE, calibration, and the handover of
a line (chapter 3, R31). -/

namespace Sys2Proof.Machine

/-! ## Table words (R39, R44, R45) -/

def Ffc.table (f : Ffc) : TableId → Table
  | .dark => f.dark
  | .gain => f.gain

def Ffc.setTable (f : Ffc) (id : TableId) (t : Table) : Ffc :=
  match id with
  | .dark => { f with dark := t }
  | .gain => { f with gain := t }

/-- The word of a column. -/
def Ffc.word (f : Ffc) (id : TableId) (c : Nat) : Checked Nat := Sparse.get id.defaultWord (f.table id).words c

/-- A word is written with a fresh check (R42, R44, R52). -/
def Ffc.write (f : Ffc) (id : TableId) (c v : Nat) : Ffc :=
  let t := f.table id
  f.setTable id { t with words := Sparse.set id.defaultWord t.words c { val := v, health := .good } }

/-- The place of column `c`'s word (R39). -/
def locationOf (id : TableId) (c : Nat) : Location := { table := id, page := c / 256, index := c % 256 }

/-- R45 steps 1 and 2: the table's page-loaded set is emptied and the location recorded. -/
def Ffc.strike (f : Ffc) (id : TableId) (c : Nat) : Ffc :=
  { f.setTable id { f.table id with loaded := [] } with lastBad := some (locationOf id c) }

/-- FFC reads a table word (R44): its value, or none when it is uncorrectable, in which case R45 has been done. -/
def readWord (id : TableId) (c : Nat) (s : State) : State × Option Nat :=
  let w := s.ffc.word id c
  match w.health with
  | .good => (s, some w.val)
  | .single => (occur .memoryCorrected none none { s with ffc := s.ffc.write id c w.val }, some w.val)
  | .double => (memoryFatal { s with ffc := s.ffc.strike id c }, none)

/-! ## The corrected level (R37, R38) -/

/-- The result of correction from a raw level, a dark entry and a gain entry (R37 steps 1 to 3). -/
def correctedPixel (r d g : Nat) : Pixel :=
  if g = 0 then .excluded
  else if r = Config.topLevel then .saturated
  else .level (min (((r - d) * g + 2048) / 4096) Config.topLevel)

/-- FFC corrects the columns given, in order, of the slot's line; none when MEMORY_FATAL ended it. DESIGN CHOICE (log 32): the dark
word of a column is read before its gain word, which is not read after an uncorrectable dark word. -/
def correctColumns (sl : Slot) : List Nat → List Pixel → State → State × Option (List Pixel)
  | [], done, s => (s, some done.reverse)
  | c :: cs, done, s =>
    if sl.isNoData c then correctColumns sl cs (.noData :: done) s
    else
      match readWord .dark c s with
      | (s1, none) => (s1, none)
      | (s1, some d) =>
        if s1.ict.state = .faulted then (s1, none)
        else
          match readWord .gain c s1 with
          | (s2, none) => (s2, none)
          | (s2, some g) =>
            if s2.ict.state = .faulted then (s2, none)
            else correctColumns sl cs (correctedPixel (Sparse.get 0 sl.raw c) d g :: done) s2

/-- FFC corrects the RUN line of slot `i`, now in processing, and hands it to LNC (R37). -/
def correctLine (i : Nat) (s : State) : State :=
  match correctColumns (s.las.slot i) (List.range s.las.width) [] s with
  | (s1, some pixels) => s1.setSlot i { s1.las.slot i with pixels := pixels }
  | (s1, none) => s1

/-! ## LOAD_TABLE and READ_TABLE (R41 to R43) -/

def entryWidth : TableId → Nat
  | .dark => 1
  | .gain => 2

/-- The entries of a LOAD_TABLE payload, after its first two bytes. -/
def tableEntries (id : TableId) (payload : List Byte) : List Nat :=
  readFields (List.replicate 256 (entryWidth id)) (payload.drop 2)

/-- The entries are written into a page, the first at index 0. -/
def Ffc.writePage (f : Ffc) (id : TableId) (page : Nat) (entries : List Nat) : Ffc :=
  (entries.zipIdx).foldl (fun f (v, i) => f.write id (page * 256 + i) v) f

/-- The last uncorrectable location becomes absent when it satisfies a condition. -/
def Ffc.forget (f : Ffc) (cond : Location → Bool) : Ffc :=
  { f with
    lastBad := match f.lastBad with
      | some l => if cond l then none else some l
      | none => none }

/-- A page joins a table's page-loaded set (R40). -/
def Ffc.joinPage (f : Ffc) (id : TableId) (page : Nat) : Ffc :=
  f.setTable id { f.table id with loaded := insertRising page (f.table id).loaded }

/-- LOAD_TABLE (R41, R42). `f` holds the table and page fields; the entries are read from the payload. A dark entry is one byte
and a gain entry two, so an entry read cannot fail its range. -/
def handleLoadTable (tag : Byte) (f : List Nat) (payload : List Byte) (s : State) : State :=
  match TableId.ofCode (f.getD 0 0) with
  | none => s.badValue tag .loadTable 0
  | some id =>
    let page := f.getD 1 0
    if page ≤ 31 then
      let ffc := (s.ffc.writePage id page (tableEntries id payload)).joinPage id page
      let ffc := ffc.forget (fun l => l.table == id && l.page == page)
      State.done { s with ffc := ffc } tag
        (.loadTable id page (ffc.table id).loaded.length ((ffc.table id).valid s.las.width))
    else s.badValue tag .loadTable 1

/-- What READ_TABLE gathers as it reads: the state, the entries so far (latest first), and the uncorrectable columns so far
(latest first). -/
structure PageRead where
  state : State
  entries : List Nat
  bad : List Nat

/-- One word of a page read by READ_TABLE: an uncorrectable one is returned as 0 and noted (R43, R45). -/
def readPageWord (id : TableId) (p : PageRead) (c : Nat) : PageRead :=
  let w := p.state.ffc.word id c
  match w.health with
  | .good => { p with entries := w.val :: p.entries }
  | .single =>
    { p with
      state := occur .memoryCorrected none none { p.state with ffc := p.state.ffc.write id c w.val }
      entries := w.val :: p.entries }
  | .double => { p with entries := 0 :: p.entries, bad := c :: p.bad }

/-- READ_TABLE (R43, R45): MEMORY_FATAL is posted once, after the page has been read, with the last uncorrectable location.
DESIGN CHOICE (log 35): a read that has been accepted goes on to its DONE, whatever its own
MEMORY_CORRECTED occurrences give rise to. -/
def handleReadTable (tag : Byte) (f : List Nat) (s : State) : State :=
  match TableId.ofCode (f.getD 0 0) with
  | none => s.badValue tag .readTable 0
  | some id =>
    let page := f.getD 1 0
    if page ≤ 31 then
      let r := ((List.range 256).map (fun i => page * 256 + i)).foldl (readPageWord id)
        { state := s, entries := [], bad := [] }
      let s := match r.bad with
        | [] => r.state
        | c :: _ => memoryFatal { r.state with ffc := r.state.ffc.strike id c }
      s.done tag (.readTable id page (decide (page ∈ (s.ffc.table id).loaded)) r.bad.length r.entries.reverse)
    else s.badValue tag .readTable 1

/-! ## CALIBRATE (R46, R47) -/

/-- The checks of the five fields (Table XIX). -/
def calibrateChecks (f : List Nat) : List Bool :=
  [isCode2 (f.getD 0 0), isCode2 (f.getD 1 0), inRange 1 1024 (f.getD 2 0), inRange 50 10000 (f.getD 3 0),
   inRange 64 1023 (f.getD 4 0)]

/-- The record of an accepted CALIBRATE (R47). -/
def calRecordOf (f : List Nat) : CalRecord :=
  { kind := if f.getD 0 0 = 0 then .dark else .bright
    mode := if f.getD 1 0 = 0 then .apply else .measure
    lines := f.getD 2 0, period := f.getD 3 0, target := f.getD 4 0, taken := 0, missing := [], closeOut := .notStarted }

/-- The reasons that stand against a calibration of a kind (R46). -/
def calibrateReasons (kind : CalKind) (s : State) : List NotReady :=
  (if s.las.enabledHeads = [] then [.noHead] else []) ++
  (if kind = .bright ∧ s.ffc.dark.valid s.las.width = false then [.darkInvalid] else [])

/-- The part enters CALIBRATING (R8, R11, R47, R176). -/
def startCalibration (r : CalRecord) (s : State) : State :=
  let period := r.period * Config.ticksPerMicrosecond
  enterState .calibrating
    { s with
      ffc := { s.ffc with record := some r, active := true, sums := [] }
      enc := { s.enc with
        calExpiry := some (s.now + period), calPeriod := period, calRemaining := r.lines, standstillExpiry := none } }

/-- CALIBRATE (R46, R47, R176). DESIGN CHOICE (log 40): an accepted request is answered DONE also when its STATE post brings the
MEMORY_FATAL that aborts the calibration just begun. -/
def handleCalibrate (tag : Byte) (f : List Nat) (s : State) : State :=
  match firstFailing (calibrateChecks f) with
  | some i => s.badValue tag .calibrate i
  | none =>
    let r := calRecordOf f
    let reasons := calibrateReasons r.kind s
    if reasons = [] then (startCalibration r s).done tag (.calibrate r s.las.width)
    else s.refuse tag Request.calibrate.code .notReady (reasonMask reasons)

/-! ## Calibration sums (R48) -/

/-- The columns of a head. -/
def Las.columnsOf (l : Las) (h : Nat) : List Nat :=
  (List.range (l.head h).settings.count).map (fun i => l.base h + i)

/-- A head's columns of a CALIBRATION line are added to the sums. -/
def addColumns (sl : Slot) (cols : List Nat) (sums : Sparse Nat) : Sparse Nat :=
  cols.foldl (fun m c => Sparse.set 0 m c (Sparse.get 0 m c + Sparse.get 0 sl.raw c)) sums

/-- FFC takes the CALIBRATION line of slot `i` into its sums, and its processing ends (R48, R31). -/
def takeCalibrationLine (i : Nat) (s : State) : State :=
  let sl := s.las.slot i
  let short := s.las.enabledHeads.filter (fun h => ((sl.noData.getD h none)).isSome)
  let whole := s.las.enabledHeads.filter (fun h => ((sl.noData.getD h none)).isNone)
  State.endLine
    { s with
      ffc := { s.ffc with
        sums := whole.foldl (fun m h => addColumns sl (s.las.columnsOf h) m) s.ffc.sums
        record := s.ffc.record.map (fun r =>
          { r with taken := r.taken + 1, missing := short.foldl (fun m h => insertRising h m) r.missing }) } }

/-! ## The handover (R31, R171) -/

/-- The slot that LAS hands over, when a line may be handed over: a COMPLETE RUN slot of the lowest line number in RUNNING, or
the COMPLETE CALIBRATION slot claimed first in CALIBRATING. -/
def handoverSlot (s : State) : Option Nat :=
  let least (key : Slot → Nat) (cond : Slot → Bool) : Option Nat :=
    (List.range 8).foldl
      (fun best i =>
        let sl := s.las.slot i
        if sl.state = .complete ∧ cond sl then
          match best with
          | none => some i
          | some b => if key sl < key (s.las.slot b) then some i else some b
        else best)
      none
  match s.las.processing with
  | some _ => none
  | none =>
    match s.ict.state with
    | .running => least (·.number) (fun sl => sl.kind == .run)
    | .calibrating => least (·.claim) (fun sl => sl.kind == .calibration)
    | .stopped | .stopping | .faulted => none

/-- LINE_HANDOVER (R31, R37, R48). With no line to hand over nothing happens (log 4). -/
def handover (s : State) : State :=
  match handoverSlot s with
  | none => s
  | some i =>
    let s := { s with las := { s.las with processing := some { slot := i, lnc := false, spd := false, sti := false } } }
    match (s.las.slot i).kind with
    | .run => correctLine i s
    | .calibration => takeCalibrationLine i s

/-! ## Completion of a calibration (R49 to R54) -/

/-- The mean of a column (R50). -/
def columnMean (sum lines : Nat) : Nat := (sum + lines / 2) / lines

/-- The gain entry that BRIGHT forms from x and the target; 0 for a dead column (R51). -/
def brightEntry (target mean dark : Nat) : Nat :=
  if mean < dark + 8 then 0
  else min (max ((target * 4096 + (mean - dark) / 2) / (mean - dark)) 1) 65535

/-- A column and the entry formed for it. -/
structure Formed where
  column : Nat
  entry : Nat
  dead : Bool
  hot : Bool
  deriving DecidableEq, Repr

/-- The entries of a DARK calibration (R50). -/
def formDark (sums : Sparse Nat) (lines : Nat) (cols : List Nat) : List Formed :=
  cols.map fun c =>
    let m := columnMean (Sparse.get 0 sums c) lines
    { column := c, entry := min m 255, dead := false, hot := decide (255 < m) }

/-- The entries of a BRIGHT calibration, each from the column's present dark entry; none when MEMORY_FATAL ended the
calibration (R51, R53). DESIGN CHOICE (log 32): the dark words are read by rising head and column, and none is read after the
first uncorrectable one. -/
def formBright (lines target : Nat) : List Nat → List Formed → State → State × Option (List Formed)
  | [], done, s => (s, some done.reverse)
  | c :: cs, done, s =>
    match readWord .dark c s with
    | (s1, none) => (s1, none)
    | (s1, some d) =>
      if s1.ict.state = .faulted then (s1, none)
      else
        let m := columnMean (Sparse.get 0 s1.ffc.sums c) lines
        let e := brightEntry target m d
        formBright lines target cs ({ column := c, entry := e, dead := decide (m < d + 8), hot := false } :: done) s1

/-- The measured table of a kind. -/
def CalKind.table : CalKind → TableId
  | .dark => .dark
  | .bright => .gain

/-- APPLY writes the entries and, when the result is COMPLETE, the needed pages join the set (R52). -/
def Ffc.apply (f : Ffc) (id : TableId) (formed : List Formed) (complete : Bool) (width : Nat) : Ffc :=
  let f := formed.foldl (fun f e => f.write id e.column e.entry) f
  let f := f.forget (fun l => l.table == id && formed.any (fun e => e.column == l.page * 256 + l.index))
  if complete then (neededPages width).foldl (fun f p => f.joinPage id p) f else f

/-- The least entry, the mean and the greatest entry of MEASURE (R52). -/
def figuresOf (formed : List Formed) : Option (Nat × Nat × Nat) :=
  match formed.map (·.entry) with
  | [] => none
  | e :: es =>
    let k := es.length + 1
    some (es.foldl min e, ((e :: es).sum + k / 2) / k, es.foldl max e)

/-- A calibration completes with its entries formed (R52, R54, R176). DESIGN CHOICE (log 41): it has completed, with its result, before
its report is posted, so that a MEMORY_FATAL which that post brings aborts no calibration, and the part is FAULTED and not STOPPED. -/
def finishCalibration (r : CalRecord) (formed : List Formed) (s : State) : State :=
  let result : CalResult := if r.missing = [] then .complete else .incomplete
  let ffc := { s.ffc with record := some r }
  let ffc := match r.mode with
    | .apply => ffc.apply r.kind.table formed (result == .complete) s.las.width
    | .measure => ffc
  let report : CalReport :=
    { kind := r.kind, mode := r.mode, result := result, linesUsed := r.taken
      dead := (formed.filter (·.dead)).length, hot := (formed.filter (·.hot)).length, missing := r.missing
      figures := match r.mode with
        | .apply => none
        | .measure => figuresOf formed }
  (post (.calibration report) none (State.leaveCalibration { s with ffc := ffc } result)).unlessFaulted (enterState .stopped)

/-- The calibration slots still ASSEMBLING. -/
def assemblingCalibration (sl : Slot) : Bool := sl.state == .assembling && sl.kind == .calibration

/-- The record at completion: the heads that a slot still ASSEMBLING owed join the missing heads set, and all enabled heads do
when no line was used (R49, R52). -/
def recordAtCompletion (r : CalRecord) (s : State) : CalRecord :=
  let owing := (s.las.slots.filter assemblingCalibration).flatMap (·.owed)
  let joined := if r.taken = 0 then s.las.enabledHeads else owing
  { r with missing := joined.foldl (fun m h => insertRising h m) r.missing }

/-- The columns of the enabled heads that are not missing. -/
def usedColumns (r : CalRecord) (s : State) : List Nat :=
  (s.las.enabledHeads.filter (fun h => !decide (h ∈ r.missing))).flatMap s.las.columnsOf

/-- The calibration completes (R49 to R53). -/
def completeCalibration (r : CalRecord) (s : State) : State :=
  let r := recordAtCompletion r s
  let s := { s with las := s.las.discardSlots assemblingCalibration, ffc := { s.ffc with record := some r } }
  match r.kind with
  | .dark => finishCalibration r (formDark s.ffc.sums r.taken (usedColumns r s)) s
  | .bright =>
    match formBright r.taken r.target (usedColumns r s) [] s with
    | (s1, some formed) => finishCalibration r formed s1
    | (s1, none) => s1

/-- The conditions of R49 for completion. Once the close-out wait has expired an ASSEMBLING slot does not bar it and is discarded,
by R49's conditions and last sentence, though R49's words on an expiry taken first say that it does (DESIGN CHOICE, log 31). -/
def calibrationDue (r : CalRecord) (s : State) : Bool :=
  s.ffc.active && s.ict.state == .calibrating && s.enc.calRemaining == 0 && s.las.processing.isNone &&
  s.las.slots.all (fun sl => !(sl.state == .complete && sl.kind == .calibration)) &&
  (s.las.slots.all (fun sl => !assemblingCalibration sl) || r.closeOut == .expired)

/-- The calibration completes at the first event after which R49's conditions hold. -/
def settleCalibration (s : State) : State :=
  match s.ffc.record with
  | some r => if calibrationDue r s then completeCalibration r s else s
  | none => s

end Sys2Proof.Machine
end

