-- ==== Sys2Proof/Machine/Lanes.lean ====
section
/-! DEFINITION. LNC: SET_LANE, CLEAR_LANE and ARM_LANE, the lane state machine, and LNC's stage of a line (chapter 4). -/

namespace Sys2Proof.Machine

/-! ## SET_LANE, CLEAR_LANE and ARM_LANE -/

/-- The eleven settings of fields 1 to 11 (Table XXIV). -/
def laneOfFields (f : List Nat) : LaneSettings :=
  { first := f.getD 1 0, last := f.getD 2 0, guard := f.getD 3 0, lo := f.getD 4 0, hi := f.getD 5 0, bare := f.getD 6 0
    enter := f.getD 7 0, leave := f.getD 8 0, leadGuard := f.getD 9 0, lengthMin := f.getD 10 0, lengthMax := f.getD 11 0 }

/-- A range first..last shares a column with a lane, or its first column lies inside it (R57 field 1). -/
def LaneSettings.overlaps (c other : LaneSettings) : Bool :=
  decide (other.first ≤ c.first ∧ c.first ≤ other.last) || decide (c.first ≤ other.last ∧ other.first ≤ c.last)

/-- A range overlaps a configured lane other than lane `i` (R57). -/
def overlapsAnother (s : State) (i : Nat) (c : LaneSettings) : Bool :=
  (List.range 16).any fun j =>
    decide (j ≠ i) &&
      match (lane s j).settings with
      | some other => c.overlaps other
      | none => false

/-- The checks of fields 1 to 11 in index order, lane `i` and W as they stand (R57, Table XXIV). -/
def setLaneChecks (s : State) (i : Nat) (c : LaneSettings) : List Bool :=
  [decide (c.first < s.las.width) && !overlapsAnother s i c, decide (c.first ≤ c.last ∧ c.last < s.las.width),
   inRange 0 255 c.guard && decide (16 + 2 * c.guard ≤ c.last + 1 - c.first), inRange 0 1022 c.lo,
   inRange (c.lo + 1) 1023 c.hi, inRange (c.hi + 1) 1023 c.bare, inRange 1 255 c.enter, inRange 1 255 c.leave,
   inRange 0 4095 c.leadGuard, inRange 0 Config.top24 c.lengthMin,
   decide (c.lengthMax = 0) || inRange (max 1 c.lengthMin) Config.top24 c.lengthMax]

/-- SET_LANE (R57, R58). -/
def handleSetLane (tag : Byte) (f : List Nat) (s : State) : State :=
  let i := f.getD 0 0
  if 15 < i then s.badValue tag .setLane 0
  else if (lane s i).armed then s.refuse tag Request.setLane.code .busy 0
  else
    let c := laneOfFields f
    match firstFailing (setLaneChecks s i c) with
    | some n => s.badValue tag .setLane (n + 1)
    | none => (s.setLane i { Lane.reset with settings := some c }).done tag (.setLane i c c.effectiveWidth)

/-- CLEAR_LANE (R59). -/
def handleClearLane (tag : Byte) (f : List Nat) (s : State) : State :=
  let i := f.getD 0 0
  if 15 < i then s.badValue tag .clearLane 0
  else if (lane s i).armed then s.refuse tag Request.clearLane.code .busy 0
  else
    let was := (lane s i).settings.isSome
    (if was then s.setLane i Lane.reset else s).done tag (.clearLane i was)

/-- What an accepted ARM_LANE makes of a lane (Table XXV). -/
def Lane.arm (l : Lane) (on : Bool) (st : Inspection) : Lane :=
  match l.state, l.change, on with
  | .disarmed, .none, true => if st = .running then { l with change := .arm } else { l with state := .ready }
  | .disarmed, .arm, false => { l with change := .none }
  | .ready, _, false => { l with state := .disarmed }
  | .seeking, .none, false => { l with change := .disarm }
  | .coated, .none, false => { l with change := .disarm }
  | .gap, .none, false => { l with change := .disarm }
  | .seeking, .disarm, true => { l with change := .none }
  | .coated, .disarm, true => { l with change := .none }
  | .gap, .disarm, true => { l with change := .none }
  | _, _, _ => l

/-- ARM_LANE (R60, R61). -/
def handleArmLane (tag : Byte) (f : List Nat) (s : State) : State :=
  let i := f.getD 0 0
  let setting := f.getD 1 0
  if 15 < i then s.badValue tag .armLane 0
  else if 1 < setting then s.badValue tag .armLane 1
  else if setting = 1 ∧ (lane s i).settings = none then
    s.refuse tag Request.armLane.code .notReady (reasonMask [.notConfigured])
  else
    let l := (lane s i).arm (setting = 1) s.ict.state
    (s.setLane i l).done tag (.armLane i l.armed l.state l.change)

/-- START: a READY lane enters SEEKING (R73). -/
def Lane.startStep (l : Lane) : Lane := if l.state = .ready then { l.dropRun with state := .seeking } else l

/-! ## The lane state machine (R65 to R68) -/

/-- What a line brings to a lane: its number, its marks, and its class for the lane. -/
structure LaneLine where
  number : Nat
  suppressed : Bool
  droppedBefore : Nat
  cls : LineClass
  bareCount : Nat

/-- Marks that a line brings (R68): SPLICE when it is suppressed, INTERRUPTED when lines were dropped before it. -/
def LaneLine.marks (n : LaneLine) : Marks := { splice := n.suppressed, interrupted := decide (0 < n.droppedBefore) }

def Marks.join (a b : Marks) : Marks := { splice := a.splice || b.splice, interrupted := a.interrupted || b.interrupted }

/-- Marks set flags of the open patch at once (R68). -/
def Lane.markPatch (l : Lane) (m : Marks) : Lane :=
  { l with patch := l.patch.map (fun p => { p with flags := p.flags.join m }) }

/-- The line, when its class is used, is coated (R68): neither suppressed, blind nor bare. -/
def LaneLine.isCoated (n : LaneLine) : Bool := !n.suppressed && n.cls == .coated

/-- The placing of the line's marks on the lane as found (Table XXVII). A mark discarded with a run is placed on it here, and goes
with it in the step that follows. -/
def Lane.placeMarks (l : Lane) (n : LaneLine) : Lane :=
  match l.state with
  | .seeking | .gap => if 0 < l.enterRun then { l with enterMarks := l.enterMarks.join n.marks } else l
  | .coated =>
    if l.bareRun = 0 ∨ n.isCoated then l.markPatch n.marks else { l with bareMarks := l.bareMarks.join n.marks }
  | .disarmed | .ready => l

/-- What a line made of a lane: the lane after it, its result and events, and the VOID report it ended. -/
structure LaneStep where
  lane : Lane
  result : LaneResult
  opened : Bool
  ended : Bool
  void : Option Report

/-- A coated line in COATED (R66). -/
def Lane.coatedLine (index : Nat) (l : Lane) (opened : Bool) : LaneStep :=
  let void : Option Report :=
    if 0 < l.bareRun then some (.void index l.patchNumber l.bareFirst l.bareLast l.bareLargest) else none
  let l1 : Lane :=
    if 0 < l.bareRun then
      { l with
        patch := l.patch.map (fun p =>
          { p with flags := p.flags.join l.bareMarks, voids := satAdd Config.top16 p.voids 1 })
        bareRun := 0, bareFirst := 0, bareLast := 0, bareLargest := 0, bareMarks := Marks.none }
    else l
  if 0 < l1.leadGuard then
    { lane := { l1 with leadGuard := l1.leadGuard - 1 }, result := .leadGuard, opened := opened, ended := false, void := void }
  else { lane := l1, result := .inspected, opened := opened, ended := false, void := void }

/-- The patch number rises by one, and 65535 becomes 0 (R65). -/
def nextPatchNumber (n : Nat) : Nat := if n = Config.top16 then 0 else n + 1

/-- A coated line in SEEKING or GAP (R65). -/
def Lane.enterLine (index : Nat) (c : LaneSettings) (n : LaneLine) (l : Lane) : LaneStep :=
  let l1 : Lane :=
    if l.enterRun = 0 then { l with enterRun := 1, enterFirst := n.number, enterMarks := Marks.none }
    else { l with enterRun := l.enterRun + 1 }
  if c.enter ≤ l1.enterRun then
    Lane.coatedLine index
      { l1 with
        state := .coated, patchNumber := nextPatchNumber l1.patchNumber
        patch := some { start := l1.enterFirst, flags := l1.enterMarks, spots := 0, voids := 0 }
        leadGuard := c.leadGuard, enterRun := 0, enterFirst := 0, enterMarks := Marks.none
        bareRun := 0, bareFirst := 0, bareLast := 0, bareLargest := 0, bareMarks := Marks.none }
      true
  else { lane := l1, result := .outOfPatch, opened := false, ended := false, void := none }

/-- A bare line in COATED (R67). -/
def Lane.bareLine (c : LaneSettings) (n : LaneLine) (l : Lane) : LaneStep :=
  let l1 : Lane :=
    if l.bareRun = 0 then
      { l with
        bareRun := 1, bareFirst := n.number, bareLast := n.number, bareLargest := n.bareCount, bareMarks := Marks.none }
    else
      { l with bareRun := l.bareRun + 1, bareLast := n.number, bareLargest := max l.bareLargest n.bareCount }
  if c.leave ≤ l1.bareRun then
    { lane :=
        { l1 with
          state := .gap, patch := none
          ended := l1.patch.map (fun p => { patch := p, endLine := l1.bareFirst - 1 })
          bareRun := 0, bareFirst := 0, bareLast := 0, bareLargest := 0, bareMarks := Marks.none }
      result := .bare, opened := false, ended := true, void := none }
  else { lane := l1, result := .bare, opened := false, ended := false, void := none }

/-- A bare line in SEEKING or GAP: the enter run and its marks are discarded (R65). -/
def Lane.leaveEnter (l : Lane) : LaneStep :=
  { lane := { l with enterRun := 0, enterFirst := 0, enterMarks := Marks.none }
    result := .outOfPatch, opened := false, ended := false, void := none }

/-- LNC advances a lane in SEEKING, COATED or GAP by one line (R65 to R68). -/
def Lane.advance (index : Nat) (c : LaneSettings) (n : LaneLine) (l : Lane) : LaneStep :=
  let l := l.placeMarks n
  if n.suppressed then { lane := l, result := .suppressed, opened := false, ended := false, void := none }
  else
    match n.cls with
    | .blind => { lane := l, result := .blind, opened := false, ended := false, void := none }
    | .coated => if l.state = .coated then l.coatedLine index false else l.enterLine index c n
    | .bare => if l.state = .coated then l.bareLine c n else l.leaveEnter

/-! ## LNC's stage (R62, R69) -/

/-- STI zeroes columns first..last and makes them QUIET (R102). -/
def zeroColumns (first last : Nat) (m : Sparse ColumnState) : Sparse ColumnState :=
  ((List.range (last + 1 - first)).map (first + ·)).foldl (fun m c => Sparse.set quietColumn m c quietColumn) m

/-- STI takes the change of a lane (R102, R103). -/
def Sti.takeChange (t : Sti) (i : Nat) (c : LaneSettings) : Sti :=
  { t with
    columns := zeroColumns c.first c.last t.columns
    lanes := t.lanes.set i
      { t.lanes.getD i LaneStats.reset with last := none, bright := 0, dark := 0, greatest := 0 } }

/-- LNC takes a lane's pending change (R62), with STI's zeroing; the Bool says that the lane was disarmed. -/
def takeChange (i : Nat) (s : State) : State × Bool :=
  let l := lane s i
  let zero (s : State) : State :=
    match l.settings with
    | some c => { s with sti := s.sti.takeChange i c }
    | none => s
  match l.change with
  | .none => (s, false)
  | .arm => (zero (s.setLane i { l.dropRun with state := .seeking, change := .none }), false)
  | .disarm => (zero (s.setLane i { l.dropRun with state := .disarmed, change := .none }), true)

/-- The outcomes LNC has formed, and the state as it stands. -/
structure LncWork where
  state : State
  outcomes : List LaneOutcome

/-- LNC's work on one lane after the pending changes have been taken: it classifies the line, advances the lane and posts a VOID
(R63 to R70). -/
def lncLane (sl : Slot) (i : Nat) (s : State) : State × Option LaneOutcome :=
  let l := lane s i
  match l.settings with
  | some c =>
    if l.active then
      let cols := validColumns c sl.pixels
      let bare := bareCount c cols
      let step := l.advance i c
        { number := sl.number, suppressed := sl.suppressed, droppedBefore := sl.droppedBefore
          cls := classify cols.length bare, bareCount := bare }
      let s := s.setLane i step.lane
      let s := match step.void with
        | some r => post r none s
        | none => s
      (s, some
        { lane := i, result := step.result, patchNumber := step.lane.patchNumber, patchOpened := step.opened
          patchEnd := step.ended, suppressed := sl.suppressed, droppedBefore := sl.droppedBefore })
    else (s, none)
  | none => (s, none)

/-- The outcome of a lane disarmed on this line (R62, R69). -/
def laneChangedOutcome (sl : Slot) (s : State) (i : Nat) : LaneOutcome :=
  { lane := i, result := .laneChanged, patchNumber := (lane s i).patchNumber, patchOpened := false, patchEnd := false
    suppressed := sl.suppressed, droppedBefore := sl.droppedBefore }

/-- Every pending change is taken, lane by lane; the list is of the lanes disarmed. -/
def takeChanges (s : State) : State × List Nat :=
  (List.range 16).foldl
    (fun (s, gone) i =>
      match takeChange i s with
      | (s, true) => (s, gone ++ [i])
      | (s, false) => (s, gone))
    (s, [])

/-- LNC's work on every lane, while no MEMORY_FATAL is taken. -/
def lncLanes (sl : Slot) (disarmed : List Nat) (w : LncWork) (i : Nat) : LncWork :=
  if w.state.ict.state = .faulted then w
  else if i ∈ disarmed then { w with outcomes := w.outcomes ++ [laneChangedOutcome sl w.state i] }
  else
    match lncLane sl i w.state with
    | (s, some o) => { state := s, outcomes := w.outcomes ++ [o] }
    | (s, none) => { w with state := s }

/-- LNC_STAGE (R62 to R70): the outcomes travel with the line. With no line waiting for LNC nothing happens (log 4). -/
def lncStage (s : State) : State :=
  match s.las.processing with
  | some p =>
    if p.lnc then s
    else
      let sl := s.las.slot p.slot
      let (s, disarmed) := takeChanges s
      let w := (List.range 16).foldl (lncLanes sl disarmed) { state := s, outcomes := [] }
      w.state.unlessFaulted fun s =>
        let s := s.setSlot p.slot { s.las.slot p.slot with outcomes := w.outcomes }
        { s with las := { s.las with processing := some { p with lnc := true } } }
  | none => s

end Sys2Proof.Machine
end

