-- ==== Sys2Proof/Machine/Spots.lean ====
section
/-! DEFINITION. SPD: spot pixels, runs, the run limit, SPD's stage of a line, and SET_SPOT (chapter 5). -/

namespace Sys2Proof.Machine

/-! ## SET_SPOT (R76, R77) -/

/-- The checks of the eight fields (Table XXXIII). -/
def setSpotChecks (f : List Nat) : List Bool :=
  [inRange 0 1023 (f.getD 0 0), inRange 0 1023 (f.getD 1 0), inRange 0 3 (f.getD 2 0), inRange 0 2 (f.getD 3 0),
   inRange 1 65535 (f.getD 4 0), decide (f.getD 5 0 = 0) || inRange 8 4096 (f.getD 5 0), inRange 1 64 (f.getD 6 0),
   inRange 1 4096 (f.getD 7 0)]

/-- The eight settings of SET_SPOT in force, in field order. -/
def State.spotSettings (s : State) : List Nat :=
  [s.spd.brightMargin, s.spd.darkMargin, s.spd.gapTolerance, s.trk.spotGap, s.trk.minArea, s.trk.promote,
   s.trk.streakMaxWidth, s.trk.spotMax]

/-- SET_SPOT (R76, R77). -/
def handleSetSpot (tag : Byte) (f : List Nat) (s : State) : State :=
  match firstFailing (setSpotChecks f) with
  | some i => s.badValue tag .setSpot i
  | none =>
    let s := { s with
      spd := { s.spd with brightMargin := f.getD 0 0, darkMargin := f.getD 1 0, gapTolerance := f.getD 2 0 }
      trk := { s.trk with
        spotGap := f.getD 3 0, minArea := f.getD 4 0, promote := f.getD 5 0, streakMaxWidth := f.getD 6 0
        spotMax := f.getD 7 0 } }
    s.done tag (.setSpot s.spotSettings)

/-! ## Spot pixels (R80, R81) -/

/-- The deviation of a bright spot pixel; none for a column that is not one (R80). -/
def brightDeviation (hi margin : Nat) (v : ValidColumn) : Option Nat :=
  if v.saturated ∨ hi + margin < v.level then some (v.level - hi) else none

/-- The deviation of a dark spot pixel; none for a column that is not one (R81). -/
def darkDeviation (lo margin : Nat) (v : ValidColumn) : Option Nat :=
  if 0 < margin ∧ v.saturated = false ∧ v.level + margin < lo then some (lo - v.level) else none

/-- A spot pixel: its column, its deviation and its saturated mark. -/
structure SpotPixel where
  column : Nat
  deviation : Nat
  saturated : Bool
  deriving DecidableEq, Repr

/-- The spot pixels among valid columns, by their deviation. -/
def spotPixels (deviation : ValidColumn → Option Nat) (cols : List ValidColumn) : List SpotPixel :=
  cols.filterMap fun v => (deviation v).map fun d => { column := v.column, deviation := d, saturated := v.saturated }

/-! ## Runs (R82, R83) -/

/-- The run of one spot pixel. -/
def Run.ofPixel (lane : Nat) (p : Polarity) (m : SpotPixel) : Run :=
  { lane := lane, polarity := p, first := m.column, last := m.column, pixels := 1, peak := m.deviation
    saturated := m.saturated }

/-- A run with a further member to its right. -/
def Run.extend (r : Run) (m : SpotPixel) : Run :=
  { r with last := m.column, pixels := r.pixels + 1, peak := max r.peak m.deviation, saturated := r.saturated || m.saturated }

/-- The runs of spot pixels of one lane and polarity that stand in column order, `r` being the run so far: a member is a neighbour
of the one before it when at most 1 + tolerance columns lie from one to the other (R82). -/
def formRuns (tolerance : Nat) (lane : Nat) (p : Polarity) (r : Run) : List SpotPixel → List Run
  | [] => [r]
  | m :: ms =>
    if m.column ≤ r.last + 1 + tolerance then formRuns tolerance lane p (r.extend m) ms
    else r :: formRuns tolerance lane p (Run.ofPixel lane p m) ms

/-- The runs of one lane and polarity. -/
def runsOf (tolerance : Nat) (lane : Nat) (p : Polarity) : List SpotPixel → List Run
  | [] => []
  | m :: ms => formRuns tolerance lane p (Run.ofPixel lane p m) ms

/-- A run takes its place in a list that is in ascending order of first column (R84). -/
def insertRun (r : Run) : List Run → List Run
  | [] => [r]
  | q :: rest => if r.first < q.first then r :: q :: rest else q :: insertRun r rest

/-- The runs that SPD forms in a lane, in ascending order of first column. -/
def laneRuns (t : Spd) (i : Nat) (c : LaneSettings) (pixels : List Pixel) : List Run :=
  let cols := validColumns c pixels
  let bright := runsOf t.gapTolerance i .bright (spotPixels (brightDeviation c.hi t.brightMargin) cols)
  let dark := runsOf t.gapTolerance i .dark (spotPixels (darkDeviation c.lo t.darkMargin) cols)
  dark.foldl (fun rs r => insertRun r rs) bright

/-- A lane takes its place among lanes in ascending order of their first column. -/
def insertLane (e : Nat × LaneSettings) : List (Nat × LaneSettings) → List (Nat × LaneSettings)
  | [] => [e]
  | q :: rest => if e.2.first < q.2.first then e :: q :: rest else q :: insertLane e rest

/-- The lanes whose outcome on the line is INSPECTED, in ascending order of their first column (R78, R94). -/
def inspectedLanes (s : State) (sl : Slot) : List (Nat × LaneSettings) :=
  (sl.outcomes.filterMap (fun o =>
    if o.result = .inspected then ((lane s o.lane).settings).map (fun c => (o.lane, c)) else none)).foldl
    (fun l e => insertLane e l) []

/-! ## SPD's stage (R84 to R89) -/

/-- The run statistics after a line (R89). -/
def Spd.finishLine (t : Spd) (number kept discarded : Nat) : Spd :=
  { t with
    lastLine := some number, kept := kept, discarded := discarded
    overflowLines := if 0 < discarded then satAdd Config.top16 t.overflowLines 1 else t.overflowLines
    discardedRuns := if 0 < discarded then satAdd Config.top24 t.discardedRuns discarded else t.discardedRuns }

/-- START clears the run statistics (R89). -/
def Spd.clearStatistics (t : Spd) : Spd :=
  { t with lastLine := none, kept := 0, discarded := 0, overflowLines := 0, discardedRuns := 0 }

/-- SPD posts RUN_OVERFLOW for a line whose first discarded run is `r`, and marks the line under MARK or STOP (R85, R86). -/
def overflow (i : Nat) (r : Run) (s : State) : State :=
  let marks := (s.ict.action .runOverflow).marks
  let s := if marks then s.setSlot i { s.las.slot i with degraded := true } else s
  occur .runOverflow (some r.lane) (some (s.las.slot i).number) s

/-- SPD_STAGE (R78 to R89). With no line waiting for SPD nothing happens (log 4). -/
def spdStage (s : State) : State :=
  match s.las.processing with
  | some p =>
    if p.lnc = false ∨ p.spd then s
    else
      let sl := s.las.slot p.slot
      let runs := (inspectedLanes s sl).flatMap (fun (i, c) => laneRuns s.spd i c sl.pixels)
      let kept := runs.take Config.runLimit
      let discarded := runs.drop Config.runLimit
      let s := match discarded with
        | [] => s
        | r :: _ => overflow p.slot r s
      s.unlessFaulted fun s =>
        let s := s.setSlot p.slot { s.las.slot p.slot with runs := kept }
        { s with
          las := { s.las with processing := some { p with spd := true } }
          spd := s.spd.finishLine sl.number kept.length discarded.length }
  | none => s

end Sys2Proof.Machine
end

