-- ==== Sys2Proof/Machine/Streaks.lean ====
section
/-! DEFINITION. STI: the lane reference, the accumulators, the alert states and alert runs, STI's stage of a line, and SET_STREAK
(chapter 6). -/

namespace Sys2Proof.Machine

/-! ## SET_STREAK (R92, R93) -/

/-- The checks of the six fields (Table XL). -/
def setStreakChecks (f : List Nat) : List Bool :=
  [inRange 1 8 (f.getD 0 0), inRange 1 32767 (f.getD 1 0), inRange 0 32767 (f.getD 2 0), inRange 0 64 (f.getD 3 0),
   inRange 1 65535 (f.getD 4 0), decide (f.getD 5 0 = 0) || inRange 1000 Config.top24 (f.getD 5 0)]

/-- The six settings of SET_STREAK in force, in field order. -/
def State.streakSettings (s : State) : List Nat :=
  [s.sti.shift, s.sti.tOn, s.sti.tOff, s.trk.streakGap, s.trk.streakMin, s.trk.progress]

/-- SET_STREAK (R92, R93): a T_off at or above T_on is set to T_on − 1. -/
def handleSetStreak (tag : Byte) (f : List Nat) (s : State) : State :=
  match firstFailing (setStreakChecks f) with
  | some i => s.badValue tag .setStreak i
  | none =>
    let tOn := f.getD 1 0
    let s := { s with
      sti := { s.sti with shift := f.getD 0 0, tOn := tOn, tOff := min (f.getD 2 0) (tOn - 1) }
      trk := { s.trk with streakGap := f.getD 3 0, streakMin := f.getD 4 0, progress := f.getD 5 0 } }
    s.done tag (.setStreak s.streakSettings)

/-! ## The reference (R95) -/

/-- The in-band columns. -/
def inBand (c : LaneSettings) (cols : List ValidColumn) : List ValidColumn :=
  cols.filter (fun v => decide (c.lo ≤ v.level ∧ v.level ≤ c.hi))

/-- The lane's reference: the number k of in-band columns, and μ when k is at least 16 (R95). -/
def reference (c : LaneSettings) (cols : List ValidColumn) : Nat × Option Nat :=
  let band := inBand c cols
  let k := band.length
  (k, if k < 16 then none else some (((band.map (·.level)).sum + k / 2) / k))

/-! ## The accumulator and the alert state (R96, R97) -/

/-- A column's new accumulator under a departure already clamped: the decay truncates toward zero (R96). -/
def newAccumulator (shift : Nat) (acc departure : Int) : Int :=
  clampInt (-32767) 32767 (acc - acc.tdiv (2 ^ shift) + departure)

/-- The departure of a level from the reference, clamped (R96 step 1). -/
def departure (level mu : Nat) : Int := clampInt (-255) 255 ((level : Int) - (mu : Int))

/-- The accumulator has crossed zero from an alert sign (R97 step 1). -/
def crossed (sign : Polarity) (acc : Int) : Bool :=
  match sign with
  | .bright => decide (acc ≤ 0)
  | .dark => decide (0 ≤ acc)

/-- A QUIET column's state after the update (R97 step 3). -/
def quietStep (tOn : Nat) (acc : Int) : Option Polarity :=
  if tOn ≤ acc.natAbs then (if 0 < acc then some .bright else some .dark) else none

/-- A column's alert state after the update (R97, Table XLI). -/
def alertStep (tOn tOff : Nat) (alert : Option Polarity) (acc : Int) : Option Polarity :=
  match alert with
  | none => quietStep tOn acc
  | some sign =>
    if crossed sign acc then quietStep tOn acc
    else if acc.natAbs < tOff then none else some sign

/-- A column after a referenced line (R96, R97). -/
def ColumnState.update (t : Sti) (mu : Nat) (v : ValidColumn) (c : ColumnState) : ColumnState :=
  let acc := newAccumulator t.shift c.acc (departure v.level mu)
  { acc := acc, alert := alertStep t.tOn t.tOff c.alert acc }

/-- The columns after the update of a lane's valid columns, lowest first. -/
def updateColumns (t : Sti) (mu : Nat) (cols : List ValidColumn) : Sparse ColumnState :=
  cols.foldl (fun m v => Sparse.set quietColumn m v.column ((Sparse.get quietColumn m v.column).update t mu v)) t.columns

/-! ## Alert runs (R98) -/

/-- A column in ALERT: its number, its sign and the magnitude of its accumulator. -/
structure AlertColumn where
  column : Nat
  sign : Polarity
  magnitude : Nat
  deriving DecidableEq, Repr

/-- The valid columns in ALERT. -/
def alertColumns (m : Sparse ColumnState) (cols : List ValidColumn) : List AlertColumn :=
  cols.filterMap fun v =>
    let c := Sparse.get quietColumn m v.column
    c.alert.map fun sign => { column := v.column, sign := sign, magnitude := c.acc.natAbs }

def AlertRun.ofColumn (lane : Nat) (c : AlertColumn) : AlertRun :=
  { lane := lane, polarity := c.sign, first := c.column, last := c.column, peak := c.magnitude }

/-- The alert runs of ALERT columns in column order, `r` being the run so far: a run goes on over consecutive columns of one
sign (R98). -/
def formAlertRuns (lane : Nat) (r : AlertRun) : List AlertColumn → List AlertRun
  | [] => [r]
  | c :: cs =>
    if c.column = r.last + 1 ∧ c.sign = r.polarity then
      formAlertRuns lane { r with last := c.column, peak := max r.peak c.magnitude } cs
    else r :: formAlertRuns lane (AlertRun.ofColumn lane c) cs

def alertRunsOf (lane : Nat) : List AlertColumn → List AlertRun
  | [] => []
  | c :: cs => formAlertRuns lane (AlertRun.ofColumn lane c) cs

/-! ## Statistics (R103) and STI's stage (R94, R99, R100) -/

/-- The states of all the columns of a lane, first to last. -/
def laneColumns (m : Sparse ColumnState) (c : LaneSettings) : List ColumnState :=
  (List.range (c.last + 1 - c.first)).map (fun i => Sparse.get quietColumn m (c.first + i))

/-- The statistics of a lane after a line on which it is INSPECTED (R103). -/
def LaneStats.afterLine (st : LaneStats) (number k : Nat) (mu : Option Nat) (cols : List ColumnState) : LaneStats :=
  match mu with
  | none =>
    { st with
      last := some { line := number, mu := none, inBand := k }
      unreferenced := satAdd Config.top16 st.unreferenced 1 }
  | some m =>
    { st with
      last := some { line := number, mu := some m, inBand := k }
      bright := (cols.filter (fun x => x.alert = some .bright)).length
      dark := (cols.filter (fun x => x.alert = some .dark)).length
      greatest := (cols.map (fun x => x.acc.natAbs)).foldl max 0 }

/-- START clears the statistics, and zeroes every column (R101, R103). -/
def Sti.clear (t : Sti) : Sti := { t with columns := [], lanes := t.lanes.map (fun _ => LaneStats.reset) }

/-- STI's work on one INSPECTED lane: the integrator after it, the lane's alert runs and its result (R94 to R98, R103). -/
def Sti.lane (t : Sti) (number i : Nat) (c : LaneSettings) (pixels : List Pixel) : Sti × List AlertRun × Integrated :=
  let cols := validColumns c pixels
  let (k, mu) := reference c cols
  let columns := match mu with
    | some m => updateColumns t m cols
    | none => t.columns
  let runs := match mu with
    | some _ => alertRunsOf i (alertColumns columns cols)
    | none => []
  let stats := (t.lanes.getD i LaneStats.reset).afterLine number k mu (laneColumns columns c)
  ({ t with columns := columns, lanes := t.lanes.set i stats }, runs, { lane := i, mu := mu, inBand := k })

/-- STI's work on the INSPECTED lanes, in ascending order of first column. -/
def stiLanes (number : Nat) (pixels : List Pixel) :
    List (Nat × LaneSettings) → Sti → Sti × List AlertRun × List Integrated
  | [], t => (t, [], [])
  | (i, c) :: rest, t =>
    let (t1, runs, result) := t.lane number i c pixels
    let (t2, moreRuns, results) := stiLanes number pixels rest t1
    (t2, runs ++ moreRuns, result :: results)

/-- STI_STAGE (R94 to R100). With no line waiting for STI nothing happens (log 4). -/
def stiStage (s : State) : State :=
  match s.las.processing with
  | some p =>
    if p.lnc = false ∨ p.sti then s
    else
      let sl := s.las.slot p.slot
      let (sti, runs, results) := stiLanes sl.number sl.pixels (inspectedLanes s sl) s.sti
      let s := s.setSlot p.slot { sl with alerts := runs, integrated := results }
      { s with las := { s.las with processing := some { p with sti := true } }, sti := sti }
  | none => s

end Sys2Proof.Machine
end

