-- ==== Sys2Proof/Machine/Clips.lean ====
section
/-! DEFINITION. CLS: SET_CLIPS, the storing of clip rows, and READ_CLIP (chapter 8). -/

namespace Sys2Proof.Machine

/-! ## SET_CLIPS (R130, R131) -/

/-- The checks of the four fields (Table LV). -/
def setClipsChecks (f : List Nat) : List Bool :=
  [isCode2 (f.getD 0 0), isCode2 (f.getD 1 0), inRange 0 8 (f.getD 2 0), inRange 1 1024 (f.getD 3 0)]

/-- SET_CLIPS (R130, R131). -/
def handleSetClips (tag : Byte) (f : List Nat) (s : State) : State :=
  match firstFailing (setClipsChecks f) with
  | some i => s.badValue tag .setClips i
  | none =>
    State.done
      { s with
        trk := { s.trk with keepSpot := decide (f.getD 0 0 = 1), keepStreak := decide (f.getD 1 0 = 1) }
        cls := { s.cls with margin := f.getD 2 0, maximum := f.getD 3 0 } }
      tag (.setClips (decide (f.getD 0 0 = 1)) (decide (f.getD 1 0 = 1)) (f.getD 2 0) (f.getD 3 0))

/-! ## Rows (R133) -/

/-- The greatest width of a row. -/
def rowLimit : Nat := 64

/-- A span widened by the margin and cut to the lane (R133). -/
def widenSpan (margin : Nat) (c : LaneSettings) (span : Span) : Span :=
  { lo := max c.first (span.lo - margin), hi := min c.last (span.hi + margin) }

/-- The columns in a span. -/
def Span.width (p : Span) : Nat := p.hi + 1 - p.lo

/-- The corrected level that a row holds for a column; none is NONE (R133). -/
def rowLevel (pixels : List Pixel) (column : Nat) : Option Nat := (pixels.getD column .noData).level?

/-- The words of a row: line number, first column, width, levels (Table LVI). -/
def rowWords (line first width : Nat) (pixels : List Pixel) : List (Option Nat) :=
  some line :: some first :: some width :: (List.range width).map (fun i => rowLevel pixels (first + i))

/-! ## The place of a clip's words (R132, R134) -/

/-- The address of the word at an offset of a clip. -/
def clipAddress (blocks : List Nat) (offset : Nat) : Nat :=
  blocks.getD (offset / Config.blockWords) 0 * Config.blockWords + offset % Config.blockWords

/-- The words a clip has used in all. -/
def Clip.used (c : Clip) : Nat := (c.blocks.length - 1) * Config.blockWords + c.wordsUsed

/-- The room left in the last block of a clip (R134). -/
def Clip.room (c : Clip) : Nat := if c.blocks = [] then 0 else Config.blockWords - c.wordsUsed

/-- Words are written from an offset of a clip on, each with a fresh check (R132, R136). -/
def Cls.writeWords (m : Cls) (blocks : List Nat) : Nat → List (Option Nat) → Cls
  | _, [] => m
  | offset, w :: ws =>
    Cls.writeWords
      { m with words := Sparse.set clipDefault m.words (clipAddress blocks offset) { val := w, health := .good } }
      blocks (offset + 1) ws

/-- A row is written after the previous one, the block list being `blocks` and `words` the words used in its last block (R134). -/
def writeRow (id : Nat) (blocks : List Nat) (words : Nat) (row : List (Option Nat)) (s : State) : State :=
  let t := s.track id
  State.setTrack { s with cls := s.cls.writeWords blocks t.clip.used row } id
    { t with
      clip := { t.clip with first := true, blocks := blocks, wordsUsed := words, rows := t.clip.rows + 1 } }

/-- The clip takes no further row, with a flag that says why (R134 step 4). -/
def endClip (id : Nat) (flags : ClipFlags) (s : State) : State :=
  let t := s.track id
  s.setTrack id { t with clip := { t.clip with valid := false, flags := flags } }

/-- A row formed is stored, or ends the clip (R134 steps 3 and 4, R135). -/
def placeRow (id : Nat) (row : List (Option Nat)) (s : State) : State :=
  let clip := (s.track id).clip
  let cost := row.length
  if cost ≤ clip.room then writeRow id clip.blocks (clip.wordsUsed + cost) row s
  else if Config.clipBlockLimit ≤ clip.blocks.length then
    endClip id { clip.flags with truncated := true }
      { s with cls := { s.cls with truncated := satAdd Config.top16 s.cls.truncated 1 } }
  else
    match s.cls.pool with
    | [] =>
      endClip id { clip.flags with starved := true }
        { s with cls := { s.cls with starved := satAdd Config.top16 s.cls.starved 1 } }
    | b :: rest => writeRow id (clip.blocks ++ [b]) (cost - clip.room) row { s with cls := { s.cls with pool := rest } }

/-- CLS takes one OPEN track continued on the line of slot record `sl` (R133, R134). -/
def storeRow (sl : Slot) (id : Nat) (s : State) : State :=
  let t := s.track id
  match t.joined, (lane s t.lane).settings with
  | some span, some c =>
    if t.clip.valid = false ∨ t.clip.rows = s.cls.maximum then s
    else
      let wide := widenSpan s.cls.margin c span
      let s := if rowLimit < wide.width then
          s.setTrack id { t with clip := { t.clip with flags := { t.clip.flags with wide := true } } }
        else s
      placeRow id (rowWords sl.number wide.lo (min wide.width rowLimit) sl.pixels) s
  | _, _ => s

/-! ## READ_CLIP (R136 to R139) -/

/-- CLS reads the word at an offset of a clip (R136): its value, or none when it is uncorrectable. -/
def readClipWord (blocks : List Nat) (offset : Nat) (s : State) : State × Option (Option Nat) :=
  let a := clipAddress blocks offset
  let w := Sparse.get clipDefault s.cls.words a
  match w.health with
  | .good => (s, some w.val)
  | .single =>
    (occur .memoryCorrected none none
      { s with cls := { s.cls with words := Sparse.set clipDefault s.cls.words a { val := w.val, health := .good } } },
      some w.val)
  | .double => (s, none)

/-- `n` words from an offset on; an uncorrectable one is none. -/
def readClipWords (blocks : List Nat) : Nat → Nat → State → State × List (Option (Option Nat))
  | 0, _, s => (s, [])
  | n + 1, offset, s =>
    let (s, w) := readClipWord blocks offset s
    let (s, ws) := readClipWords blocks n (offset + 1) s
    (s, w :: ws)

/-- What READ_CLIP gathers as it walks: the state, the place of the next row (none once it is lost), whether an uncorrectable
word has been met, and the rows so far, latest first. -/
structure ClipWalk where
  state : State
  place : Option Nat
  damaged : Bool
  rows : List ClipRow

/-- The walk passes a row by its width word (R136). -/
def ClipWalk.skip (blocks : List Nat) (w : ClipWalk) : ClipWalk :=
  match w.place with
  | none => w
  | some o =>
    match readClipWord blocks (o + 2) w.state with
    | (s, some width) => { w with state := s, place := some (o + 3 + width.getD 0) }
    | (s, none) => { w with state := s, place := none, damaged := true }

/-- The walk reads the row of an index (R136, R139). DESIGN CHOICE (log 34): every word of the row is read, those behind an
uncorrectable one among them, save the levels of a row whose width is lost. -/
def ClipWalk.read (blocks : List Nat) (w : ClipWalk) (index : Nat) : ClipWalk :=
  match w.place with
  | none =>
    { w with
      rows := { index := index, damaged := true, line := none, first := none, width := none, levels := [] } :: w.rows }
  | some o =>
    let (s, line) := readClipWord blocks o w.state
    let (s, first) := readClipWord blocks (o + 1) s
    let (s, width) := readClipWord blocks (o + 2) s
    match width with
    | none =>
      { state := s, place := none, damaged := true
        rows :=
          { index := index, damaged := true, line := line.bind id, first := first.bind id, width := none, levels := [] } ::
            w.rows }
    | some width =>
      let n := width.getD 0
      let (s, levels) := readClipWords blocks n (o + 3) s
      let bad := line.isNone || first.isNone || levels.any (·.isNone)
      { state := s, place := some (o + 3 + n), damaged := w.damaged || bad
        rows :=
          { index := index, damaged := bad, line := line.bind id, first := first.bind id, width := some n
            levels := if bad then [] else levels.map (fun v => v.bind id) } :: w.rows }

/-- The rows from `first` on, up to `count` or to the last row stored. DESIGN CHOICE (log 34): a first row at or beyond the rows
stored reads no word, so that no word is corrected and no damage found (R136, R137). -/
def walkClip (clip : Clip) (first count : Nat) (s : State) : ClipWalk :=
  if clip.rows ≤ first then { state := s, place := none, damaged := false, rows := [] }
  else
    let start := (List.range first).foldl (fun w _ => w.skip clip.blocks)
      { state := s, place := some 0, damaged := false, rows := [] }
    ((List.range (min count (clip.rows - first))).map (first + ·)).foldl (fun w i => w.read clip.blocks i) start

/-- The checks of the three fields (R137). -/
def readClipChecks (f : List Nat) : List Bool :=
  [inRange 0 63 (f.getD 0 0), inRange 0 1023 (f.getD 1 0), inRange 1 7 (f.getD 2 0)]

/-- CLIP_DAMAGED joins the flags of a clip half when the read has met an uncorrectable word (R136). -/
def markDamaged (id : Nat) (damaged : Bool) (s : State) : State :=
  let t := s.track id
  if damaged = true ∧ t.state ≠ .free then
    s.setTrack id { t with clip := { t.clip with flags := { t.clip.flags with damaged := true } } }
  else s

/-- READ_CLIP (R137 to R139). The flags of the reply are those after the read (log 29). DESIGN CHOICE (log 35): a read that has been
accepted goes on to its DONE over the slot as it was found, whatever its own MEMORY_CORRECTED occurrences give rise to. -/
def handleReadClip (tag : Byte) (f : List Nat) (s : State) : State :=
  match firstFailing (readClipChecks f) with
  | some i => s.badValue tag .readClip i
  | none =>
    let id := f.getD 0 0
    let t := s.track id
    if t.state = .free then s.refuse tag Request.readClip.code .notHeld 0
    else
      let w := walkClip t.clip (f.getD 1 0) (f.getD 2 0) s
      (markDamaged id w.damaged w.state).done tag
        (.readClip id t.state t.clip.valid t.clip.rows t.clip.blocks.length
          { t.clip.flags with damaged := t.clip.flags.damaged || w.damaged } (f.getD 1 0) w.rows.reverse)

end Sys2Proof.Machine
end

