-- ==== Sys2Proof/Machine/Tracks.lean ====
section
/-! DEFINITION. TRK: matching, merging, opening and closing of tracks, the TRK stage of a line with the PATCH reports that follow
it, close all, and READ_TRACK, LIST_TRACKS and RELEASE_TRACK (chapter 7, R71, R72). -/

namespace Sys2Proof.Machine

/-! ## Findings -/

/-- What TRK matches against tracks: a run (R110) or an alert run (R112). -/
inductive Finding
  | run (r : Run)
  | alert (a : AlertRun)
  deriving DecidableEq, Repr

def Finding.lane : Finding → Nat
  | .run r => r.lane
  | .alert a => a.lane

def Finding.polarity : Finding → Polarity
  | .run r => r.polarity
  | .alert a => a.polarity

def Finding.span : Finding → Span
  | .run r => { lo := r.first, hi := r.last }
  | .alert a => { lo := a.first, hi := a.last }

/-- The least span that holds two. -/
def Span.unite (a b : Span) : Span := { lo := min a.lo b.lo, hi := max a.hi b.hi }

/-- The spans formed on a line, united (R111). -/
def uniteJoined : Option Span → Option Span → Option Span
  | none, b => b
  | some a, none => some a
  | some a, some b => some (a.unite b)

/-- The greater of two values that may be absent. -/
def maxPresent : Option Nat → Option Nat → Option Nat
  | none, b => b
  | some a, none => some a
  | some a, some b => some (max a b)

/-! ## Matching (R110, R112) -/

/-- The kinds and origins that a finding may join (R110, R112). -/
def Track.takes (t : Track) : Finding → Bool
  | .run _ => t.kind == .spot || t.origin != .integrator
  | .alert _ => t.kind == .streak

/-- The track is OPEN, a candidate of the finding, and its match span widened by one column shares a column with it. -/
def Track.matches (t : Track) (f : Finding) : Bool :=
  t.state == .open && t.lane == f.lane && t.polarity == f.polarity && t.takes f &&
  decide (f.span.lo ≤ t.matchSpan.hi + 1 ∧ t.matchSpan.lo ≤ f.span.hi + 1)

/-- The ids of the tracks that a finding matches, ascending. -/
def matchingIds (f : Finding) (s : State) : List Nat := (List.range 64).filter (fun id => (s.track id).matches f)

/-- An origin of RUN that an alert run joins becomes BOTH (R112). -/
def Origin.withAlert : Origin → Origin
  | .run => .both
  | .integrator => .integrator
  | .both => .both

/-- A finding joins a track (R110, R112). -/
def Track.join (t : Track) (f : Finding) : Track :=
  let t := { t with
    columns := t.columns.unite f.span, matchSpan := t.matchSpan.unite f.span, joined := uniteJoined t.joined (some f.span) }
  match f with
  | .run r => { t with area := satAdd Config.top32 t.area r.pixels, peakDeviation := maxPresent t.peakDeviation (some r.peak) }
  | .alert a => { t with origin := t.origin.withAlert, peakAccumulator := maxPresent t.peakAccumulator (some a.peak) }

/-! ## Merging (R111) -/

/-- The origins of two tracks united. -/
def Origin.unite (a b : Origin) : Origin := if a = b then a else .both

def TrackFlags.unite (a b : TrackFlags) : TrackFlags :=
  { merged := a.merged || b.merged, interrupted := a.interrupted || b.interrupted, degraded := a.degraded || b.degraded
    large := a.large || b.large }

/-- The track is a STREAK that is not tentative. -/
def Track.established (t : Track) : Bool := t.kind == .streak && !t.tentative

/-- The survivor with one absorbed track folded in (R111); a STREAK_OPEN falls due when this made it a non-tentative STREAK
(R118). -/
def Track.absorb (t a : Track) : Track :=
  let m := { t with
    area := satAdd Config.top32 t.area a.area, columns := t.columns.unite a.columns
    matchSpan := t.matchSpan.unite a.matchSpan, joined := uniteJoined t.joined a.joined
    peakDeviation := maxPresent t.peakDeviation a.peakDeviation
    peakAccumulator := maxPresent t.peakAccumulator a.peakAccumulator
    flags := { t.flags.unite a.flags with merged := true }
    interruptPending := t.interruptPending || a.interruptPending, origin := t.origin.unite a.origin
    kind := if t.kind = TrackKind.streak ∨ a.kind = TrackKind.streak then TrackKind.streak else TrackKind.spot
    tentative := t.tentative && a.tentative, patchesCrossed := max t.patchesCrossed a.patchesCrossed }
  { m with openDue := t.openDue || (!t.established && m.established) }

/-- The oldest of the tracks: the earliest first line, and of those the lowest id, `best` being the oldest so far. -/
def oldest (s : State) (best : Nat) : List Nat → Nat
  | [] => best
  | id :: rest => oldest s (if (s.track id).firstLine < (s.track best).firstLine then id else best) rest

/-- A track is folded into the survivor and freed (R111). -/
def mergeInto (survivor : Nat) (s : State) (id : Nat) : State :=
  (s.setTrack survivor ((s.track survivor).absorb (s.track id))).freeTrack id

/-- A finding joins the track it matches, or the survivor of those it matches. -/
def joinMatches (f : Finding) (first : Nat) (others : List Nat) (s : State) : State :=
  let survivor := oldest s first others
  let s := ((first :: others).filter (· ≠ survivor)).foldl (mergeInto survivor) s
  s.setTrack survivor ((s.track survivor).join f)

/-! ## Opening (R107) -/

/-- The lane outcome that a line carries for a lane. -/
def Slot.outcomeOf (sl : Slot) (lane : Nat) : Option LaneOutcome := sl.outcomes.find? (fun o => o.lane = lane)

/-- The patch number of a lane's outcome on the line. -/
def Slot.patchOf (sl : Slot) (lane : Nat) : Nat :=
  match sl.outcomeOf lane with
  | some o => o.patchNumber
  | none => 0

/-- The record of a track that a finding opens on a line, with the retention setting of its kind (R107). -/
def Track.opening (sl : Slot) (f : Finding) (laneCount : Nat) (keep : Bool) : Track :=
  { Track.blank with
    state := .open, first := true, lane := f.lane, polarity := f.polarity, patchNumber := sl.patchOf f.lane
    firstLine := sl.number, lastLine := sl.number, inspected := 1, columns := f.span, lastSpan := f.span
    patchesCrossed := 1, patchLast := sl.patchOf f.lane, laneCountAtFirst := laneCount
    flags := { TrackFlags.none with degraded := sl.degraded }, clip := { Clip.blank with valid := keep }
    matchSpan := f.span, joined := some f.span
    kind := match f with
      | .run _ => .spot
      | .alert _ => .streak
    origin := match f with
      | .run _ => .run
      | .alert _ => .integrator
    tentative := match f with
      | .run _ => false
      | .alert _ => true
    area := match f with
      | .run r => r.pixels
      | .alert _ => 0
    peakDeviation := match f with
      | .run r => some r.peak
      | .alert _ => none
    peakAccumulator := match f with
      | .run _ => none
      | .alert a => some a.peak }

/-- The retention setting of the kind that a finding opens. -/
def Trk.keepFor (t : Trk) : Finding → Bool
  | .run _ => t.keepSpot
  | .alert _ => t.keepStreak

/-! ## Spot counts and failed allocations (R72, R113) -/

/-- A SPOT report is formed for a lane and a patch number (R72). -/
def countSpot (i patchNumber : Nat) (s : State) : State :=
  let l := lane s i
  let up (p : Patch) : Patch := { p with spots := satAdd Config.top16 p.spots 1 }
  if l.patchNumber = patchNumber then
    s.setLane i
      { l with patch := l.patch.map up, ended := l.ended.map (fun e => { e with patch := up e.patch }) }
  else s

/-- The one-line UNTRACKED report of a run (R113). -/
def untrackedReport (sl : Slot) (r : Run) : SpotReport :=
  { id := none, lane := r.lane, polarity := r.polarity, patchNumber := sl.patchOf r.lane, firstLine := sl.number
    lastLine := sl.number, columns := { lo := r.first, hi := r.last }, area := r.pixels, peakDeviation := r.peak
    inspected := 1, cause := none, flags := { TrackFlags.none with degraded := sl.degraded }, untracked := true
    clipFlags := ClipFlags.none, clipHeld := false }

/-- An allocation fails (R113). -/
def failAllocation (sl : Slot) (f : Finding) (s : State) : State :=
  let s := occur .tableFull (some f.lane) none
    { s with trk := { s.trk with failures := satAdd Config.top16 s.trk.failures 1 } }
  s.unlessFaulted fun s =>
    match f with
    | .alert _ => s
    | .run r =>
      if s.trk.minArea ≤ r.pixels then
        post (.spot (untrackedReport sl r)) none
          (countSpot r.lane (sl.patchOf r.lane)
            { s with trk := { s.trk with untracked := satAdd Config.top16 s.trk.untracked 1 } })
      else s

/-- A finding that matches no track opens one (R107), or fails to (R113). -/
def openFor (sl : Slot) (f : Finding) (s : State) : State :=
  match s.trk.freeList with
  | [] => failAllocation sl f s
  | id :: rest =>
    State.setTrack { s with trk := { s.trk with freeList := rest } } id
      (Track.opening sl f (s.trk.inspected.getD f.lane 0) (s.trk.keepFor f))

/-- A track's record is read when it is OPEN, and the reading may find MEMORY_FATAL (R126). -/
def readOpen (s : State) (id : Nat) : State :=
  s.unlessFaulted fun s => if (s.track id).state = .open then readRecord id s else s

/-- TRK takes one finding of the line (R110 to R113). -/
def takeFinding (sl : Slot) (s : State) (f : Finding) : State :=
  s.unlessFaulted fun s =>
    match matchingIds f s with
    | [] => openFor sl f s
    | id :: others => joinMatches f id others s

/-- One finding in matching: the records of the OPEN tracks are read, in ascending id order, and the finding is taken (R126,
log 9). -/
def matchFinding (sl : Slot) (s : State) (f : Finding) : State := takeFinding sl ((List.range 64).foldl readOpen s) f

/-! ## Closing (R119) -/

def spotReportOf (id : Nat) (t : Track) (cause : CloseCause) (held : Bool) : SpotReport :=
  { id := some id, lane := t.lane, polarity := t.polarity, patchNumber := t.patchNumber, firstLine := t.firstLine
    lastLine := t.lastLine, columns := t.columns, area := t.area, peakDeviation := t.peakDeviation.getD 0
    inspected := t.inspected, cause := some cause, flags := t.flags, untracked := false, clipFlags := t.clip.flags
    clipHeld := held }

def streakCloseOf (id : Nat) (t : Track) (cause : CloseCause) (held : Bool) : StreakCloseReport :=
  { id := id, lane := t.lane, polarity := t.polarity, origin := t.origin, firstLine := t.firstLine, lastLine := t.lastLine
    columns := t.columns, peakDeviation := t.peakDeviation, peakAccumulator := t.peakAccumulator
    inspected := t.inspected, patchesCrossed := t.patchesCrossed, cause := cause, flags := t.flags
    clipFlags := t.clip.flags, clipHeld := held }

/-- The report of a close (Table LI). -/
def closeReport (id : Nat) (t : Track) (cause : CloseCause) (held : Bool) : Report :=
  match t.kind with
  | .spot => .spot (spotReportOf id t cause held)
  | .streak => .streakClose (streakCloseOf id t cause held)

/-- The track closes without a report (R119). -/
def Track.silent (t : Track) (minArea : Nat) : Bool :=
  match t.kind with
  | .spot => decide (t.area < minArea)
  | .streak => t.tentative

/-- The close serial after one more close (R119). -/
def nextSerial (n : Nat) : Nat := if n = Config.top32 then 0 else n + 1

/-- The retention setting of the track's kind. -/
def Trk.keeps (k : Trk) (t : Track) : Bool :=
  match t.kind with
  | .spot => k.keepSpot
  | .streak => k.keepStreak

/-- The record as it is HELD (R119): its clip takes no further rows (log 17). -/
def Track.hold (t : Track) (cause : CloseCause) (serial : Nat) : Track :=
  { t with
    state := .held, cause := some cause, serial := serial, interruptPending := false, joined := none, openDue := false
    matchSpan := { lo := 0, hi := 0 }, clip := { t.clip with valid := false } }

/-- The slot of a closed track is settled: HELD under KEEP, and freed under OFF. -/
def settleSlot (id : Nat) (t : Track) (cause : CloseCause) (serial : Nat) (s : State) : State :=
  if s.trk.keeps t then s.setTrack id (t.hold cause serial) else (s.setTrack id t).freeTrack id

/-- A closing track, its record being `t`, is settled (R119). The slot is settled before a notice for its own report is taken
(R149). -/
def closeTrack (id : Nat) (t : Track) (cause : CloseCause) (s : State) : State :=
  if t.silent s.trk.minArea then (s.setTrack id t).freeTrack id
  else
    let serial := nextSerial s.trk.serial
    let report := closeReport id t cause (s.trk.keeps t && decide (0 < t.clip.rows))
    let s := { s with trk := { s.trk with serial := serial } }
    let s := if t.kind = .spot then countSpot t.lane t.patchNumber s else s
    post report (some { id := id, serial := serial }) (settleSlot id t cause serial s)

/-! ## The end of the line for a track (R114 to R118) -/

/-- The lane is INSPECTED and unreferenced on the line (R95). -/
def Slot.unreferenced (sl : Slot) (lane : Nat) : Bool := sl.integrated.any (fun r => r.lane == lane && r.mu.isNone)

/-- The inspected lines of a track that is continued, from its lane's count (R108). -/
def inspectedLines (count atFirst : Nat) : Nat := min (count + 1 - atFirst) Config.lastLineNumber

/-- Continuation and gap (R114). -/
def Track.continueLine (sl : Slot) (o : LaneOutcome) (count : Nat) (t : Track) : Track :=
  match t.joined with
  | some span =>
    { t with
      lastLine := sl.number, lastSpan := span, gap := 0, inspected := inspectedLines count t.laneCountAtFirst
      first := t.first && decide (t.firstLine = sl.number) }
  | none =>
    let blind := t.kind == .streak && t.origin != .run && sl.unreferenced t.lane
    if o.result = .inspected ∧ blind = false then { t with gap := t.gap + 1 } else t

/-- The INTERRUPTED mark (R115). -/
def Track.markInterrupted (number : Nat) (o : LaneOutcome) (t : Track) : Track :=
  let pending := t.interruptPending ||
    (decide (t.firstLine < number) && (o.result == .suppressed || decide (0 < o.droppedBefore)))
  if pending = true ∧ o.result = .inspected then
    { t with flags := { t.flags with interrupted := true }, interruptPending := false }
  else { t with interruptPending := pending }

/-- The DEGRADED mark (R115). -/
def Track.markDegraded (sl : Slot) (t : Track) : Track :=
  if sl.degraded = true ∧ t.joined.isSome = true then { t with flags := { t.flags with degraded := true } } else t

/-- Patches crossed (R115). -/
def Track.markPatch (o : LaneOutcome) (t : Track) : Track :=
  if t.kind = .streak ∧ t.joined.isSome = true ∧ o.patchNumber ≠ t.patchLast then
    { t with patchesCrossed := satAdd Config.top16 t.patchesCrossed 1, patchLast := o.patchNumber }
  else t

/-- The record after R114 and R115. -/
def Track.endLine (sl : Slot) (o : LaneOutcome) (count : Nat) (t : Track) : Track :=
  (((t.continueLine sl o count).markInterrupted sl.number o).markDegraded sl).markPatch o

/-- The track is promoted on this line (R117). -/
def Track.promoted (k : Trk) (t : Track) : Bool :=
  t.kind == .spot && t.joined.isSome && decide (0 < k.promote ∧ k.promote ≤ t.inspected) &&
  decide (t.columns.hi + 1 - t.columns.lo ≤ k.streakMaxWidth)

/-- The gap tolerance of the track's kind (R116). -/
def Trk.gapTolerance (k : Trk) (t : Track) : Nat :=
  match t.kind with
  | .spot => k.spotGap
  | .streak => k.streakGap

/-- The highest close cause that arises at step 5, if one does (R116, R117, Table L). -/
def closeCause (k : Trk) (o : LaneOutcome) (t : Track) : Option CloseCause :=
  if o.result = .laneChanged then some .laneChanged
  else if o.patchEnd = true ∧ t.kind = .spot then some .patchEnd
  else if t.kind = .spot ∧ t.joined.isSome = true ∧ t.promoted k = false ∧ k.spotMax ≤ t.inspected then some .sizeLimit
  else if k.gapTolerance t < t.gap then some .gapExceeded
  else none

/-- LARGE joins the flags of a track that closes with SIZE_LIMIT (R117). -/
def Track.markLarge (t : Track) (cause : CloseCause) : Track :=
  if cause = .sizeLimit then { t with flags := { t.flags with large := true } } else t

/-- The STREAK_OPEN report of a track (Table LI). -/
def streakOpenReport (id : Nat) (t : Track) : Report :=
  .streakOpen id t.lane t.polarity t.origin t.firstLine t.columns t.peakDeviation t.peakAccumulator

/-- The STREAK_PROGRESS report of a track (Table LI). -/
def streakProgressReport (id : Nat) (t : Track) : Report :=
  .streakProgress id t.lastLine t.columns t.inspected t.patchesCrossed

/-- The track becomes a non-tentative STREAK on this line (R118). -/
def Track.opensStreak (k : Trk) (t : Track) : Bool :=
  t.promoted k || t.openDue ||
  (t.kind == .streak && t.tentative && t.joined.isSome && decide (k.streakMin ≤ t.inspected))

/-- A STREAK_PROGRESS falls due on this line (R118). -/
def Track.progressDue (k : Trk) (t : Track) : Bool :=
  t.established && t.joined.isSome && decide (0 < k.progress ∧ k.progress ≤ t.inspected - t.progressBase)

/-- Streak reporting for a track that does not close (R117, R118). -/
def reportStreak (id : Nat) (t : Track) (s : State) : State :=
  if t.opensStreak s.trk then
    let t := { t with
      kind := .streak, origin := if t.promoted s.trk then .run else t.origin, tentative := false
      progressBase := t.inspected }
    post (streakOpenReport id t) none (s.setTrack id t)
  else if t.progressDue s.trk then
    let t := { t with progressBase := t.inspected }
    post (streakProgressReport id t) none (s.setTrack id t)
  else s.setTrack id t

/-- TRK takes the end of the line for one track, reading its record at its turn (R109 step 5, R126). -/
def endTrack (sl : Slot) (s : State) (id : Nat) : State :=
  (readOpen s id).unlessFaulted fun s =>
    let t := s.track id
    match t.state, sl.outcomeOf t.lane with
    | .open, some o =>
      let t := t.endLine sl o (s.trk.inspected.getD t.lane 0)
      match closeCause s.trk o t with
      | some cause => closeTrack id (t.markLarge cause) cause s
      | none => reportStreak id t s
    | _, _ => s

/-! ## PATCH reports (R71) -/

/-- The PATCH report of an ended patch (R71, Table XXX). -/
def patchReport (index : Nat) (l : Lane) (e : EndedPatch) : Report :=
  let length := e.endLine + 1 - e.patch.start
  let lengthMin := match l.settings with
    | some c => c.lengthMin
    | none => 0
  let lengthMax := match l.settings with
    | some c => c.lengthMax
    | none => 0
  .patch index l.patchNumber e.patch.start e.endLine length e.patch.spots e.patch.voids
    (decide (0 < lengthMin ∧ length < lengthMin)) (decide (0 < lengthMax ∧ lengthMax < length)) e.patch.flags

/-- The PATCH report of a lane whose patch ended on the line is posted. DESIGN CHOICE (log 36): when the post of one PATCH report
brings MEMORY_FATAL, the PATCH reports still to come on the line are not posted, the line's processing having been abandoned (R71,
R180). -/
def postPatch (s : State) (i : Nat) : State :=
  s.unlessFaulted fun s =>
    let l := lane s i
    match l.ended with
    | some e => post (patchReport i l e) none (s.setLane i { l with ended := none })
    | none => s

/-! ## The stage (R109) -/

/-- A lane is INSPECTED on the line. -/
def Slot.inspects (sl : Slot) (lane : Nat) : Bool := sl.outcomes.any (fun o => o.lane == lane && o.result == .inspected)

/-- The inspected line counts advance (R108). -/
def Trk.countLine (k : Trk) (sl : Slot) : Trk :=
  { k with inspected := k.inspected.mapIdx (fun i n => if sl.inspects i then n + 1 else n) }

/-- Each track as the stage begins: its match span is its last-line span, and nothing has joined it (R109 step 1). -/
def Track.beginStage (t : Track) : Track := { t with matchSpan := t.lastSpan, joined := none, openDue := false }

/-- Each track as the stage ends. -/
def Track.endStage (t : Track) : Track := { t with matchSpan := { lo := 0, hi := 0 }, joined := none, openDue := false }

def State.mapTracks (s : State) (g : Track → Track) : State :=
  { s with trk := { s.trk with slots := s.trk.slots.map g } }

/-- Step 4 for one track: the clip store is asked for a row when the track is OPEN and continued on the line (R134). -/
def askRow (sl : Slot) (s : State) (id : Nat) : State := if (s.track id).state = .open then storeRow sl id s else s

/-- The steps of TRK's stage of the line of slot `i` (R109), and the end of its processing (R71, R31). -/
def trkLine (i : Nat) (s : State) : State :=
  let sl := s.las.slot i
  let ids := List.range 64
  let s := State.mapTracks { s with trk := s.trk.countLine sl } Track.beginStage
  let s := (sl.runs.map Finding.run ++ sl.alerts.map Finding.alert).foldl (matchFinding sl) s
  s.unlessFaulted fun s =>
    let s := ids.foldl (endTrack sl) (ids.foldl (askRow sl) s)
    s.unlessFaulted fun s =>
      let s := (List.range 16).foldl postPatch (s.mapTracks Track.endStage)
      s.unlessFaulted State.endLine

/-- TRK_STAGE (R109). With no line that both detectors have finished nothing happens (log 4). -/
def trkStage (s : State) : State :=
  match s.las.processing with
  | some p => if p.lnc = true ∧ p.spd = true ∧ p.sti = true then trkLine p.slot s else s
  | none => s

/-! ## Close all (R121) -/

/-- One track at close all: its record is read, and it closes with cause STOPPED. -/
def closeOne (s : State) (id : Nat) : State :=
  s.unlessFaulted fun s =>
    if (s.track id).state = .open then
      (readRecord id s).unlessFaulted fun s => closeTrack id (s.track id) .stopped s
    else s

def closeAll (s : State) : State := (List.range 64).foldl closeOne s

/-! ## READ_TRACK, LIST_TRACKS and RELEASE_TRACK (R122, R124, R125) -/

/-- READ_TRACK (R124, R126). DESIGN CHOICE (log 40): it is refused with FAULTED also when the uncorrectable word is of another record,
which a notice raised by its own MEMORY_CORRECTED reads; so are RELEASE_TRACK and LIST_TRACKS. -/
def handleReadTrack (tag : Byte) (f : List Nat) (s : State) : State :=
  let id := f.getD 0 0
  if 63 < id then s.badValue tag .readTrack 0
  else
    let s := readRecord id s
    if s.ict.state = .faulted then s.refuse tag Request.readTrack.code .faulted 0
    else s.done tag (.readTrack id (s.track id))

/-- RELEASE_TRACK (R122, R126). DESIGN CHOICE (log 45): the record's words are checked before the slot's state is tested, so that a
release refused with NOT_HELD can correct a word, though R122 and R162 have such a request change nothing. -/
def handleReleaseTrack (tag : Byte) (f : List Nat) (s : State) : State :=
  let id := f.getD 0 0
  if 63 < id then s.badValue tag .releaseTrack 0
  else
    let s := readRecord id s
    if s.ict.state = .faulted then s.refuse tag Request.releaseTrack.code .faulted 0
    else if (s.track id).state = .held then
      let s := s.freeTrack id
      s.done tag (.releaseTrack id s.trk.freeList.length)
    else s.refuse tag Request.releaseTrack.code .notHeld 0

/-- The ids and states of the non-FREE slots, ascending. -/
def Trk.listed (k : Trk) : List (Nat × TrackState) :=
  ((List.range 64).filter (fun id => (k.slot id).state ≠ .free)).map (fun id => (id, (k.slot id).state))

/-- One record read by LIST_TRACKS. -/
def readAny (s : State) (id : Nat) : State := s.unlessFaulted (readRecord id)

/-- LIST_TRACKS (R125, R126). -/
def handleListTracks (tag : Byte) (s : State) : State :=
  let s := (List.range 64).foldl readAny s
  if s.ict.state = .faulted then s.refuse tag Request.listTracks.code .faulted 0
  else s.done tag (.listTracks s.trk.freeList.length s.trk.listed)

end Sys2Proof.Machine
end

