-- ==== Sys2Proof/Machine/Inspection.lean ====
section
/-! DEFINITION. ICT: START, STOP and the STOP procedure, CLEAR_FAULT, SET_FAULT_ACTION, READ_STATUS, and the resets
(chapter 11). -/

namespace Sys2Proof.Machine

/-! ## START (R172) -/

/-- The reasons that stand against START. -/
def startReasons (s : State) : List NotReady :=
  (if s.las.enabledHeads = [] then [.noHead] else []) ++
  (if s.ffc.dark.valid s.las.width then [] else [.darkInvalid]) ++
  (if s.ffc.gain.valid s.las.width then [] else [.gainInvalid]) ++
  (if s.lnc.any Lane.armed then [] else [.noLane])

/-- ENC at the entry into RUNNING by START (R6, R7). -/
def Enc.startRun (e : Enc) : Enc :=
  { e with nextLine := 0, highWater := 0, lag := 0, splicePending := false, suppression := 0, lineLimit := false }

/-- LAS at START (R32). -/
def Las.startRun (l : Las) : Las :=
  { l.discardSlots (fun sl => sl.state ≠ .free) with pendingDropped := 0, pendingOverrun := false, droppedTotal := 0 }

/-- TRK at START (R108, R121). -/
def Trk.startRun (k : Trk) : Trk := { k with inspected := k.inspected.map (fun _ => 0), untracked := 0, failures := 0 }

/-- CLS at START (R140). -/
def Cls.startRun (c : Cls) : Cls := { c with starved := 0, truncated := 0 }

/-- What the blocks do in the event of START's acceptance (R172). -/
def State.startRun (s : State) : State :=
  { s with
    enc := s.enc.startRun, las := s.las.startRun, lnc := s.lnc.map Lane.startStep, sti := s.sti.clear
    trk := s.trk.startRun, spd := s.spd.clearStatistics, cls := s.cls.startRun
    ict := { s.ict with limitPending := false } }

/-- START in STOPPED (R172). DESIGN CHOICE (log 40): the DONE carries the state at its end, which is FAULTED when START's own STATE post
brings MEMORY_FATAL. -/
def handleStart (tag : Byte) (s : State) : State :=
  let reasons := startReasons s
  if reasons = [] then
    let s := enterState .running s.startRun
    s.done tag (.start s.ict.state)
  else s.refuse tag Request.start.code .notReady (reasonMask reasons)

/-! ## STOP (R173, R174) -/

/-- The steps of the STOP procedure, once no line is in processing (R173). When a post brings MEMORY_FATAL, the DONE is the one of
R180 step 5, also when the post was the STATE report of step 4 (DESIGN CHOICE, log 40). -/
def finishStop (s : State) : State :=
  (closeAll { s with las := s.las.discardSlots (fun sl => sl.state ≠ .free) }).unlessFaulted fun s =>
    (enterState .stopped { s with lnc := s.lnc.map Lane.stopStep }).unlessFaulted fun s =>
      s.finishRequest (.stop s.ict.state s.ict.lastStop)

/-- The STOP procedure goes on at the first event at which no line is in processing (R173). -/
def runStop (s : State) : State := if s.ict.state = .stopping ∧ s.las.processing = none then finishStop s else s

/-- STOP ends a calibration (R53, R174). DESIGN CHOICE (log 40): when the ABORTED report's post brings MEMORY_FATAL, STOPPED is not
entered, and the DONE that follows carries FAULTED. -/
def stopCalibration (s : State) : State :=
  (abortCalibration s).unlessFaulted fun s =>
    enterState .stopped { s with ict := { s.ict with lastStop := .request } }

/-- STOP answers at once with the state and the cause as they stand (R174). -/
def answerStop (tag : Byte) (s : State) : State := s.done tag (.stop s.ict.state s.ict.lastStop)

/-- STOP (R173, R174). In RUNNING it becomes the request in progress. -/
def handleStop (tag : Byte) (s : State) : State :=
  match s.ict.state with
  | .running =>
    beginStop .request { s with lnk := { s.lnk with inProgress := some { tag := tag, reply := none } } }
  | .calibrating => answerStop tag (stopCalibration s)
  | .stopped | .stopping | .faulted => answerStop tag s

/-! ## CLEAR_FAULT and SET_FAULT_ACTION (R179, R181) -/

/-- CLEAR_FAULT (R181). DESIGN CHOICE (log 40): the DONE carries the state at its end, which is FAULTED again when its own STATE post
brings MEMORY_FATAL. -/
def handleClearFault (tag : Byte) (s : State) : State :=
  let s := if s.ict.state = .faulted then
      enterState .stopped { s with las := s.las.discardSlots (fun sl => sl.state ≠ .free) }
    else s
  s.done tag (.clearFault s.ict.state)

/-- SET_FAULT_ACTION (R179). -/
def handleSetFaultAction (tag : Byte) (f : List Nat) (s : State) : State :=
  match Source.ofCode (f.getD 0 0) with
  | none => s.badValue tag .setFaultAction 0
  | some src =>
    match Action.ofCode (f.getD 1 0) with
    | none => s.badValue tag .setFaultAction 1
    | some act =>
      State.done { s with ict := { s.ict with actions := s.ict.actions.set src.code act } } tag (.setFaultAction src act)

/-! ## READ_STATUS (R182) -/

/-- The live part of a source holds (R178, R182). -/
def State.live (s : State) (src : Source) : Bool :=
  match src with
  | .referenceLow => !s.las.lowHeads.isEmpty
  | .tableFull => s.trk.full
  | .encoderGlitch | .headLate | .headShort | .headUnsolicited | .lineOverrun | .runOverflow | .memoryCorrected
  | .memoryFatal => false

def sourceStatus (s : State) (src : Source) : SourceStatus :=
  { action := match src with
      | .memoryFatal => none
      | src => some (s.ict.action src)
    liveHeads := match src with
      | .referenceLow => some s.las.lowHeads
      | _ => none
    live := match src with
      | .tableFull => some s.trk.full
      | _ => none
    latch := s.ict.latches.getD src.code false
    count := s.ict.counts.getD src.code 0 }

def ictStatus (s : State) : IctStatus :=
  { state := s.ict.state, lastStop := s.ict.lastStop, limitPending := s.ict.limitPending, resetCause := s.ict.resetCause
    resetSeen := s.ict.resetSeen, sources := Source.all.map (sourceStatus s) }

/-- ENC's part (R17). -/
def encStatus (s : State) : EncStatus :=
  { web := s.enc.web
    haltedMs := match s.enc.web with
      | .halted => some (s.enc.standstillMs s.now)
      | .moving => none
    nextLine := s.enc.nextLine, highWater := s.enc.highWater, lag := s.enc.lag, suppression := s.enc.suppression
    splicePending := s.enc.splicePending, lineLimit := s.enc.lineLimit
    calRemaining := if s.ict.state = .calibrating then some s.enc.calRemaining else none }

/-- The number of slots in a state. A slot in processing is COMPLETE (log 27). -/
def Las.countSlots (l : Las) (st : SlotState) : Nat := (l.slots.filter (fun sl => sl.state = st)).length

/-- LAS's part (R35). -/
def lasStatus (s : State) : LasStatus :=
  { width := s.las.width
    heads := s.las.heads.map (fun h =>
      { enabled := h.settings.enabled, delivery := h.delivery.code, lastMean := h.lastMean, lowLive := h.lowLive })
    free := s.las.countSlots .free, assembling := s.las.countSlots .assembling, complete := s.las.countSlots .complete
    inProcessing := s.las.processing.isSome, pendingDropped := s.las.pendingDropped
    droppedTotal := s.las.droppedTotal }

/-- FFC's part (R55). -/
def ffcStatus (s : State) : FfcStatus :=
  { darkLoaded := s.ffc.dark.loaded, darkValid := s.ffc.dark.valid s.las.width
    gainLoaded := s.ffc.gain.loaded, gainValid := s.ffc.gain.valid s.las.width
    lastBad := s.ffc.lastBad, record := s.ffc.record, result := s.ffc.result }

/-- LNC's part for one lane (R74). -/
def laneStatus (l : Lane) : LaneStatus :=
  { configured := l.settings.isSome, armed := l.armed, change := l.change, state := l.state, patchNumber := l.patchNumber
    enterRun := l.enterRun, enterFirst := if 0 < l.enterRun then some l.enterFirst else none
    coated := match l.state, l.patch with
      | .coated, some p =>
        some
          { patch := p, leadGuard := l.leadGuard, bareRun := l.bareRun
            bareFirst := if 0 < l.bareRun then some l.bareFirst else none }
      | _, _ => none }

/-- SPD's part (R90). -/
def spdStatus (s : State) : SpdStatus :=
  { brightMargin := s.spd.brightMargin, darkMargin := s.spd.darkMargin, gapTolerance := s.spd.gapTolerance
    lastLine := s.spd.lastLine, kept := s.spd.kept, discarded := s.spd.discarded, overflowLines := s.spd.overflowLines
    discardedRuns := s.spd.discardedRuns }

/-- STI's part (R104). -/
def stiStatus (s : State) : StiStatus := { shift := s.sti.shift, tOn := s.sti.tOn, tOff := s.sti.tOff, lanes := s.sti.lanes }

/-- TRK's part (R128). It holds the three streak track settings: R182 makes TRK's part of the reply what R128 lists, and R104's sentence
that READ_STATUS does not show them is taken as of STI's part (DESIGN CHOICE, log 33). -/
def trkStatus (s : State) : TrkStatus :=
  { freeLength := s.trk.freeList.length, freeHead := s.trk.freeList.head?
    opened := (s.trk.slots.filter (fun t => t.state = .open)).length
    tentative := (s.trk.slots.filter (fun t => t.state = .open ∧ t.tentative = true)).length
    held := (s.trk.slots.filter (fun t => t.state = .held)).length
    untracked := s.trk.untracked, failures := s.trk.failures
    spot := [s.trk.spotGap, s.trk.minArea, s.trk.promote, s.trk.streakMaxWidth, s.trk.spotMax]
    streak := [s.trk.streakGap, s.trk.streakMin, s.trk.progress]
    keepSpot := s.trk.keepSpot, keepStreak := s.trk.keepStreak }

/-- CLS's part (R140). -/
def clsStatus (s : State) : ClsStatus :=
  { poolLength := s.cls.pool.length, poolHead := s.cls.pool.head?, margin := s.cls.margin, maximum := s.cls.maximum
    starved := s.cls.starved, truncated := s.cls.truncated }

/-- RPQ's part (R154). -/
def rpqStatus (s : State) : RpqStatus :=
  { queued := s.rpq.queue.length
    byPriority := [1, 2, 3].map (fun p => (s.rpq.queue.filter (fun r => r.priority = p)).length)
    offered := s.rpq.offered.map (fun r => r.report.kind)
    tally := s.rpq.tally, lostKinds := s.rpq.lostKinds, lostLines := s.rpq.lostLines, overflow := s.rpq.overflow
    overflowLive := decide (0 < s.rpq.tally), priority := s.rpq.priority, pendingPriority := s.rpq.pendingPriority
    watermark := s.rpq.watermark, attention := s.rpq.attention, attn := s.attn }

/-- LNK's part (R169). -/
def lnkStatus (s : State) : LnkStatus :=
  { requests := s.lnk.requests.length, replies := s.lnk.replies.length, holdOccupied := s.lnk.rejectHold.isSome
    rejects := s.lnk.rejects }

/-- What READ_STATUS shows of the part (R182). -/
def statusOf (s : State) : Status :=
  { ict := ictStatus s, enc := encStatus s, las := lasStatus s, ffc := ffcStatus s, lnc := s.lnc.map laneStatus
    spd := spdStatus s, sti := stiStatus s, trk := trkStatus s, cls := clsStatus s, rpq := rpqStatus s
    lnk := lnkStatus s }

/-- What READ_STATUS clears once the reply is formed (R154, R182). -/
def clearRead (s : State) : State :=
  { s with
    ict := { s.ict with
      resetSeen := false, counts := s.ict.counts.map (fun _ => 0)
      latches := Source.all.map (fun src => s.ict.latches.getD src.code false && s.live src) }
    rpq := { s.rpq with overflow := s.rpq.overflow && decide (0 < s.rpq.tally) } }

/-- READ_STATUS (R182). -/
def handleReadStatus (tag : Byte) (s : State) : State := (clearRead s).done tag (.readStatus (statusOf s))

/-! ## Resets (R177) -/

/-- Every block takes the values of a reset (R18, R36, R56, R75, R91, R105, R129, R141, R155, R168, R177). The RESET request keeps
the correction tables with their page-loaded sets, and the table geometry record. -/
def resetAll (cause : ResetCause) (s : State) : State :=
  let keep := decide (cause = .request)
  { s with
    hold := none
    enc := Enc.reset s.pins.encA s.pins.encB s.now
    las := Las.reset (if keep then s.las.geometry else List.replicate 4 Window.default)
    ffc := Ffc.reset (if keep then s.ffc.dark else Table.fresh) (if keep then s.ffc.gain else Table.fresh)
    lnc := List.replicate 16 Lane.reset
    spd := Spd.reset, sti := Sti.reset, trk := Trk.reset, cls := Cls.reset, rpq := Rpq.reset, lnk := Lnk.reset
    ict := Ict.reset cause }

/-- POWER_ON_RESET (R177): a RESET_N held low prolongs it. -/
def powerOn (s : State) : State :=
  match s.hold with
  | none => resetAll .powerOn s
  | some _ => { resetAll .powerOn s with hold := some .powerOn }

/-- PIN_RESET_ASSERT (R168, R177): every operation is cut, and the part is held in reset. -/
def pinAssert (s : State) : State :=
  match s.hold with
  | none => { resetAll .pin s with hold := some .pin }
  | some _ => s

/-- PIN_RESET_END (R177): the reset in which the part was held ends. With RESET_N high already nothing happens (log 18). -/
def pinEnd (s : State) : State :=
  match s.hold with
  | none => s
  | some cause => resetAll cause s

end Sys2Proof.Machine
end

