-- ==== Sys2Proof/Machine/Reports.lean ====
section
/-! DEFINITION. RPQ: SET_PRIORITY and SET_ATTENTION (chapter 9). -/

namespace Sys2Proof.Machine

/-- The kinds whose priority cannot be 0 (R144). -/
def ReportKind.fixed : ReportKind → Bool
  | .fault | .queueLoss | .state => true
  | .void | .streakOpen | .spot | .streakClose | .streakProgress | .patch | .web | .calibration => false

/-- A new priority of a kind is established: at once, or pending while a line is in processing (R144). -/
def Rpq.establish (q : Rpq) (k : ReportKind) (p : Nat) (inProcessing : Bool) : Rpq :=
  if inProcessing then { q with pendingPriority := q.pendingPriority.set k.index (some p) }
  else { q with priority := q.priority.set k.index p, pendingPriority := q.pendingPriority.set k.index none }

/-- SET_PRIORITY (R144). -/
def handleSetPriority (tag : Byte) (f : List Nat) (s : State) : State :=
  match ReportKind.ofCode (f.getD 0 0) with
  | none => s.badValue tag .setPriority 0
  | some k =>
    let p := f.getD 1 0
    if 3 < p then s.badValue tag .setPriority 1
    else
      let rpq := if p = 0 ∧ k.fixed = true then s.rpq else s.rpq.establish k p s.las.processing.isSome
      State.done { s with rpq := rpq } tag (.setPriority k (rpq.priorityOf k) (rpq.pendingPriority.getD k.index none))

/-- The checks of the two fields (Table LXIII). -/
def setAttentionChecks (f : List Nat) : List Bool := [inRange 1 128 (f.getD 0 0), inRange 1 3 (f.getD 1 0)]

/-- SET_ATTENTION (R152, R153). -/
def handleSetAttention (tag : Byte) (f : List Nat) (s : State) : State :=
  match firstFailing (setAttentionChecks f) with
  | some i => s.badValue tag .setAttention i
  | none =>
    let s := { s with rpq := { s.rpq with watermark := f.getD 0 0, attention := f.getD 1 0 } }
    s.done tag (.setAttention s.rpq.watermark s.rpq.attention s.attn)

end Sys2Proof.Machine
end

