-- ==== Sys2Proof/Machine/Link.lean ====
section
/-! DEFINITION. LNK: the receiver, the request queue and its processing, the reply buffer, and the frame boundary (chapter 10). -/

namespace Sys2Proof.Machine

/-! ## The receiver (R157 to R160) -/

/-- The receiver takes a state, with the gap timer as it then is. -/
def State.setRx (s : State) (rx : Receiver) (gapExpiry : Option Nat) : State :=
  { s with lnk := { s.lnk with rx := rx, gapExpiry := gapExpiry } }

/-- The gap timer starts from 2 ms (R158). -/
def State.listen (s : State) (rx : Receiver) : State := s.setRx rx (some (s.now + Config.gapTicks))

/-- The place of a reject reason's count. -/
def RejectReason.index : RejectReason → Nat
  | .check => 0
  | .length => 1
  | .truncated => 2
  | .queueFull => 3

/-- A reject is counted (R160). -/
def Lnk.countReject (l : Lnk) (reason : RejectReason) : Lnk :=
  { l with rejects := l.rejects.set reason.index (satAdd Config.top16 (l.rejects.getD reason.index 0) 1) }

/-- A frame is rejected (R160): the REJECT enters the reply buffer, or waits in the reject hold with the receiver HELD. -/
def rejectFrame (reason : RejectReason) (tag : Byte) (s : State) : State :=
  let r : Reply := { tag := tag, body := .reject reason }
  let s := { s with lnk := s.lnk.countReject reason }
  if s.lnk.replies.length < Config.replyBufferSize then (s.setRx .hunting none).reply r
  else State.setRx { s with lnk := { s.lnk with rejectHold := some r } } .held none

/-- A good frame joins the request queue, or is rejected with QUEUE_FULL (R159). -/
def judgeGood (f : Frame) (s : State) : State :=
  if s.lnk.requests.length < Config.requestQueueSize then
    State.setRx { s with lnk := { s.lnk with requests := s.lnk.requests ++ [f] } } .hunting none
  else rejectFrame .queueFull f.tag s

/-- The receiver after LENGTH high (R157). -/
def enterBody (kind tag : Byte) (length : Nat) (crc : BitVec 16) (s : State) : State :=
  if Config.payloadLimit < length then rejectFrame .length tag s
  else if length = 0 then s.listen (.check kind tag [] crc none)
  else s.listen (.payload kind tag length [] crc)

/-- The receiver takes one byte event (R157, R159, R160). -/
def receiveByte (b : Byte) (s : State) : State :=
  match s.lnk.rx with
  | .held => s
  | .hunting => if b = syncByte then s.listen (.header [] crcStart) else s
  | .header taken crc =>
    match taken ++ [b] with
    | [kind, tag, lo, hi] => enterBody kind tag (leNat [lo, hi]) (crcFold crc b) s
    | taken => s.listen (.header taken (crcFold crc b))
  | .payload kind tag length taken crc =>
    if length ≤ taken.length + 1 then s.listen (.check kind tag (taken ++ [b]) (crcFold crc b) none)
    else s.listen (.payload kind tag length (taken ++ [b]) (crcFold crc b))
  | .check kind tag taken crc none => s.listen (.check kind tag taken crc (some b))
  | .check kind tag taken crc (some high) =>
    if [high, b] = checkBytes crc then judgeGood { kind := kind, tag := tag, payload := taken } s
    else rejectFrame .check tag s

/-- The TAG as received so far, or 0 (R158). -/
def Receiver.tagSoFar : Receiver → Byte
  | .header taken _ => taken.getD 1 0
  | .payload _ tag _ _ _ => tag
  | .check _ tag _ _ _ => tag
  | .hunting | .held => 0

/-- GAP_TIMER_EXPIRY (R158). With the timer stopped no expiry arises and nothing happens (log 4). -/
def gapExpiry (s : State) : State :=
  match s.lnk.gapExpiry with
  | none => s
  | some t =>
    match s.lnk.rx with
    | .header .. | .payload .. | .check .. => rejectFrame .truncated s.lnk.rx.tagSoFar (s.reach t)
    | .hunting | .held => s

/-- A request row: its frame is judged (log 1). In HELD every byte of it is discarded. -/
def deliver (kind tag : Byte) (payload : List Byte) (s : State) : State :=
  match s.lnk.rx with
  | .held => s
  | .hunting | .header .. | .payload .. | .check .. =>
    if Config.payloadLimit < payload.length then rejectFrame .length tag s
    else judgeGood { kind := kind, tag := tag, payload := payload } s

/-! ## Processing (R161, R162) -/

/-- RESET (R166): the DONE is queued, the reject hold is emptied, and the receiver is HELD until the reset takes effect. -/
def handleReset (tag : Byte) (s : State) : State :=
  State.setRx { s.done tag .reset with lnk := { (s.done tag .reset).lnk with rejectHold := none, resetPending := true } }
    .held none

/-- The block that owns a request takes it (Table LXVIII). -/
def handle (r : Request) (tag : Byte) (payload : List Byte) (s : State) : State :=
  let f := readFields r.fieldWidths payload
  match r with
  | .ident => s.done tag .ident
  | .readStatus => handleReadStatus tag s
  | .reset => handleReset tag s
  | .clearFault => handleClearFault tag s
  | .start => handleStart tag s
  | .stop => handleStop tag s
  | .calibrate => handleCalibrate tag f s
  | .setHead => handleSetHead tag f s
  | .setEncoder => handleSetEncoder tag f s
  | .splice => handleSplice tag s
  | .setLane => handleSetLane tag f s
  | .armLane => handleArmLane tag f s
  | .clearLane => handleClearLane tag f s
  | .setSpot => handleSetSpot tag f s
  | .setStreak => handleSetStreak tag f s
  | .setClips => handleSetClips tag f s
  | .loadTable => handleLoadTable tag f payload s
  | .readTable => handleReadTable tag f s
  | .setPriority => handleSetPriority tag f s
  | .setFaultAction => handleSetFaultAction tag f s
  | .setAttention => handleSetAttention tag f s
  | .readTrack => handleReadTrack tag f s
  | .readClip => handleReadClip tag f s
  | .releaseTrack => handleReleaseTrack tag f s
  | .listTracks => handleListTracks tag s

/-- A frame is processed: the generic checks, then its owning block (R162). -/
def processFrame (fr : Frame) (s : State) : State :=
  match Request.ofCode fr.kind with
  | none => s.refuse fr.tag fr.kind .unknownKind 0
  | some r =>
    match refusedByState r s.ict.state with
    | some reason => s.refuse fr.tag fr.kind reason 0
    | none => if r.lengthOk fr.payload then handle r fr.tag fr.payload s else s.refuse fr.tag fr.kind .badLength 0

/-! ## Places of the reply buffer (R160, R161) -/

/-- What wants a free place of the reply buffer, the held REJECT apart. -/
inductive Claimant
  /-- the request in progress, with its reply -/
  | inProgress (r : Reply)
  /-- the frame at the head of the request queue -/
  | head (fr : Frame) (rest : List Frame)
  deriving DecidableEq, Repr

/-- The claimant of a place, if there is one (R161). -/
def Lnk.claimant (l : Lnk) : Option Claimant :=
  match l.inProgress with
  | some { tag := _, reply := some r } => some (.inProgress r)
  | some { tag := _, reply := none } => none
  | none =>
    if l.resetPending then none
    else
      match l.requests with
      | [] => none
      | fr :: rest => some (.head fr rest)

/-- The procedures that go on at the first event at which they can: a calibration's completion and the STOP procedure. -/
def finishProcedures (s : State) : State := runStop (settleCalibration s)

/-- A claimant takes a place. -/
def grant (c : Claimant) (s : State) : State :=
  match c with
  | .inProgress r => State.reply { s with lnk := { s.lnk with inProgress := none } } r
  | .head fr rest => finishProcedures (processFrame fr { s with lnk := { s.lnk with requests := rest } })

/-- The held REJECT takes a place, and the receiver enters HUNTING (R160). -/
def enterHeld (r : Reply) (s : State) : State :=
  (State.setRx { s with lnk := { s.lnk with rejectHold := none } } .hunting none).reply r

/-- A claimant that lets the held REJECT go first: the reply of the request in progress lets a REJECT(QUEUE_FULL), which was met while
that request, a STOP, was in progress (R164). -/
def Claimant.yields (c : Claimant) (held : Reply) : Bool :=
  match c, held.body with
  | .inProgress _, .reject .queueFull => true
  | _, _ => false

/-- Free places of the reply buffer are given out until none is free or none is wanted; `fuel` bounds how many. DESIGN CHOICE (log 7):
a held REJECT of another reason and the reply of the request in progress contend as R160 has the REJECT and the queue's head
contend, and the free choice decides. -/
def serve : Nat → State → State
  | 0, s => s
  | fuel + 1, s =>
    if s.lnk.replies.length < Config.replyBufferSize then
      match s.lnk.rejectHold, s.lnk.claimant with
      | none, none => s
      | none, some c => serve fuel (grant c s)
      | some r, none => serve fuel (enterHeld r s)
      | some r, some c =>
        if c.yields r then serve fuel (enterHeld r s)
        else
          let chosen := { s with choices := s.choices + 1 }
          if Config.queueFirst s.choices then serve fuel (grant c chosen) else serve fuel (enterHeld r chosen)
    else s

/-! ## The outbound arbiter (R165, R166) -/

/-- The frame in transmission is the DONE of a RESET request. -/
def Outgoing.isResetDone : Option Outgoing → Bool
  | some (.reply { tag := _, body := .done .reset }) => true
  | _ => false

/-- The reply frame of the oldest reply begins. -/
def State.beginReply (s : State) (r : Reply) (rest : List Reply) : State :=
  { s with lnk := { s.lnk with replies := rest, tx := some (.reply r) } }

/-- The report frame of a record begins, and the record leaves the queue (R150, R151). -/
def State.beginReport (s : State) (v : Record) : State :=
  { s with rpq := s.rpq.leave v, lnk := { s.lnk with tx := some (.report v.report) } }

/-- The outbound arbiter chooses the next frame at a frame boundary (R165). -/
def arbitrate (s : State) : State :=
  match s.lnk.replies with
  | r :: rest => s.beginReply r rest
  | [] =>
    match s.rpq.offered with
    | some v => s.beginReport v
    | none => { s with lnk := { s.lnk with tx := none } }

/-- What an event that finds the transmitter IDLE begins to send (R165). When a reply and a record have both come in the event,
either may be taken first: a free choice, but that with the reset pending mark set no report is sent (R166). The arbiter acts
once the event's other effects stand (log 6). -/
def State.sends (s : State) : State :=
  match s.lnk.tx, s.lnk.replies, s.rpq.offered with
  | some _, _, _ => s
  | none, [], none => s
  | none, r :: rest, none => s.beginReply r rest
  | none, [], some v => s.beginReport v
  | none, r :: rest, some v =>
    if s.lnk.resetPending then s.beginReply r rest
    else
      let chosen := { s with choices := s.choices + 1 }
      if Config.replyFirst s.choices then chosen.beginReply r rest else chosen.beginReport v

/-- Every claimant of a free place of the reply buffer that can be served is; each waiting frame, the request in progress and the
held REJECT takes at most one. -/
def serveAll (s : State) : State := serve (s.lnk.requests.length + 3) s

/-- What follows every event, in that event: the procedures that can go on, the places of the reply buffer, and at an IDLE
transmitter the next frame, whose beginning may free a place. -/
def settle (s : State) : State := serveAll (serveAll (finishProcedures s)).sends

/-- FRAME_BOUNDARY (R165, R166). -/
def frameBoundary (s : State) : State := if Outgoing.isResetDone s.lnk.tx then resetAll .request s else arbitrate s

end Sys2Proof.Machine
end

