-- ==== Sys2Proof/Machine/Commands.lean ====
section
/-! DEFINITION. The meaning of each command: one definition per row of the opcode table. -/

namespace Sys2Proof.Machine

/-- The answer of every command. -/
abbrev Answer := Host.Outcome State Fault Refusal

/-- An event in service: it acts, and the event settles. While the part is held in reset the event is lost (R177, log 18). -/
def inService (event : State → State) (s : State) : Answer := .next (if s.hold.isSome then s else settle (event s))

/-- A request row in service (log 1). -/
def request (r : Request) (tag : Byte) (payload : List Byte) (s : State) : Answer :=
  inService (deliver r.code tag payload) s

/-! ## Line events -/

/-- ENCODER_EDGE (R1 to R7). The pin and the clock move even while the part is held in reset. -/
def execEncoderEdge (ch : Channel) (level : Bool) (elapsed : Nat) (s : State) : Answer :=
  inService (edge ch level) { s.elapse elapsed with pins := s.pins.set ch level }

/-- STANDSTILL_TIMER_EXPIRY (R10). -/
def execStandstillTimerExpiry (s : State) : Answer := inService standstillExpiry s

/-- SPLICE_IN (R12). The pin moves even while the part is held in reset. -/
def execSpliceIn (rising : Bool) (s : State) : Answer :=
  inService (spliceEdge rising) { s with pins := { s.pins with spliceIn := rising } }

/-- CALIBRATION_TIMER_EXPIRY (R8). -/
def execCalibrationTimerExpiry (s : State) : Answer := inService calibrationExpiry s

/-- CLOSE_OUT_WAIT_EXPIRY (R49). -/
def execCloseOutWaitExpiry (s : State) : Answer := inService closeOutExpiry s

/-! ## Head events -/

/-- HEAD_LINE_START (R26). -/
def execHeadLineStart (h : Fin 4) (s : State) : Answer := inService (lineStart h) s

/-- HEAD_RAW_LEVEL (R27). -/
def execHeadRawLevel (h : Fin 4) (level : Fin 1024) (s : State) : Answer := inService (rawLevel h level) s

/-- HEAD_LINE_END (R28). -/
def execHeadLineEnd (h : Fin 4) (s : State) : Answer := inService (lineEnd h) s

/-! ## Stages of a line -/

/-- LINE_HANDOVER (R31). -/
def execLineHandover (s : State) : Answer := inService handover s

/-- LNC_STAGE (R69). -/
def execLncStage (s : State) : Answer := inService lncStage s

/-- SPD_STAGE (R78). -/
def execSpdStage (s : State) : Answer := inService spdStage s

/-- STI_STAGE (R94). -/
def execStiStage (s : State) : Answer := inService stiStage s

/-- TRK_STAGE (R109). -/
def execTrkStage (s : State) : Answer := inService trkStage s

/-! ## Link events -/

/-- LINK_BYTE (R156, R157). The clock moves even while the part is held in reset. -/
def execLinkByte (b : Byte) (elapsed : Nat) (s : State) : Answer := inService (receiveByte b) (s.elapse elapsed)

/-- GAP_TIMER_EXPIRY (R158). -/
def execGapTimerExpiry (s : State) : Answer := inService gapExpiry s

/-- FRAME_BOUNDARY (R165). -/
def execFrameBoundary (s : State) : Answer := inService frameBoundary s

/-! ## Requests -/

/-- UNKNOWN_KIND (R162). -/
def execUnknownKind (kind tag : Byte) (payload : List Byte) (s : State) : Answer :=
  inService (deliver kind tag payload) s

/-- IDENT (R167). -/
def execIdent (tag : Byte) (payload : List Byte) (s : State) : Answer := request .ident tag payload s

/-- READ_STATUS (R182). The clock moves even while the part is held in reset. -/
def execReadStatus (tag : Byte) (payload : List Byte) (elapsed : Nat) (s : State) : Answer :=
  request .readStatus tag payload (s.elapse elapsed)

/-- RESET (R166). -/
def execReset (tag : Byte) (payload : List Byte) (s : State) : Answer := request .reset tag payload s

/-- CLEAR_FAULT (R181). -/
def execClearFault (tag : Byte) (payload : List Byte) (s : State) : Answer := request .clearFault tag payload s

/-- START (R172). -/
def execStart (tag : Byte) (payload : List Byte) (s : State) : Answer := request .start tag payload s

/-- STOP (R173, R174). -/
def execStop (tag : Byte) (payload : List Byte) (s : State) : Answer := request .stop tag payload s

/-- CALIBRATE (R46, R47). -/
def execCalibrate (tag : Byte) (payload : List Byte) (s : State) : Answer := request .calibrate tag payload s

/-- SET_HEAD (R21, R22). -/
def execSetHead (tag : Byte) (payload : List Byte) (s : State) : Answer := request .setHead tag payload s

/-- SET_ENCODER (R15, R16). -/
def execSetEncoder (tag : Byte) (payload : List Byte) (s : State) : Answer := request .setEncoder tag payload s

/-- SPLICE (R13). -/
def execSplice (tag : Byte) (payload : List Byte) (s : State) : Answer := request .splice tag payload s

/-- SET_LANE (R57, R58). -/
def execSetLane (tag : Byte) (payload : List Byte) (s : State) : Answer := request .setLane tag payload s

/-- ARM_LANE (R60, R61). -/
def execArmLane (tag : Byte) (payload : List Byte) (s : State) : Answer := request .armLane tag payload s

/-- CLEAR_LANE (R59). -/
def execClearLane (tag : Byte) (payload : List Byte) (s : State) : Answer := request .clearLane tag payload s

/-- SET_SPOT (R76, R77). -/
def execSetSpot (tag : Byte) (payload : List Byte) (s : State) : Answer := request .setSpot tag payload s

/-- SET_STREAK (R92, R93). -/
def execSetStreak (tag : Byte) (payload : List Byte) (s : State) : Answer := request .setStreak tag payload s

/-- SET_CLIPS (R130, R131). -/
def execSetClips (tag : Byte) (payload : List Byte) (s : State) : Answer := request .setClips tag payload s

/-- LOAD_TABLE (R41, R42). -/
def execLoadTable (tag : Byte) (payload : List Byte) (s : State) : Answer := request .loadTable tag payload s

/-- READ_TABLE (R43). -/
def execReadTable (tag : Byte) (payload : List Byte) (s : State) : Answer := request .readTable tag payload s

/-- SET_PRIORITY (R144). -/
def execSetPriority (tag : Byte) (payload : List Byte) (s : State) : Answer := request .setPriority tag payload s

/-- SET_FAULT_ACTION (R179). -/
def execSetFaultAction (tag : Byte) (payload : List Byte) (s : State) : Answer := request .setFaultAction tag payload s

/-- SET_ATTENTION (R152). -/
def execSetAttention (tag : Byte) (payload : List Byte) (s : State) : Answer := request .setAttention tag payload s

/-- READ_TRACK (R124). -/
def execReadTrack (tag : Byte) (payload : List Byte) (s : State) : Answer := request .readTrack tag payload s

/-- LIST_TRACKS (R125). -/
def execListTracks (tag : Byte) (payload : List Byte) (s : State) : Answer := request .listTracks tag payload s

/-- RELEASE_TRACK (R122). -/
def execReleaseTrack (tag : Byte) (payload : List Byte) (s : State) : Answer := request .releaseTrack tag payload s

/-- READ_CLIP (R137 to R139). -/
def execReadClip (tag : Byte) (payload : List Byte) (s : State) : Answer := request .readClip tag payload s

/-! ## Resets -/

/-- POWER_ON_RESET (R177). -/
def execPowerOnReset (s : State) : Answer := .next (powerOn s)

/-- PIN_RESET_ASSERT (R177). -/
def execPinResetAssert (s : State) : Answer := .next (pinAssert s)

/-- PIN_RESET_END (R177). -/
def execPinResetEnd (s : State) : Answer := .next (pinEnd s)

end Sys2Proof.Machine
end

