-- ==== Sys2Proof/Machine/Dispatch.lean ====
section
/-! DEFINITION. The dispatch of a command to its meaning. -/

namespace Sys2Proof.Machine

def exec (i : Instr) (s : State) : Host.Outcome State Fault Refusal :=
  match i with
  | .encoderEdge channel level elapsed => Sys2Proof.Machine.execEncoderEdge channel level elapsed s
  | .standstillTimerExpiry => Sys2Proof.Machine.execStandstillTimerExpiry s
  | .spliceIn rising => Sys2Proof.Machine.execSpliceIn rising s
  | .calibrationTimerExpiry => Sys2Proof.Machine.execCalibrationTimerExpiry s
  | .closeOutWaitExpiry => Sys2Proof.Machine.execCloseOutWaitExpiry s
  | .headLineStart head => Sys2Proof.Machine.execHeadLineStart head s
  | .headRawLevel head level => Sys2Proof.Machine.execHeadRawLevel head level s
  | .headLineEnd head => Sys2Proof.Machine.execHeadLineEnd head s
  | .lineHandover => Sys2Proof.Machine.execLineHandover s
  | .lncStage => Sys2Proof.Machine.execLncStage s
  | .spdStage => Sys2Proof.Machine.execSpdStage s
  | .stiStage => Sys2Proof.Machine.execStiStage s
  | .trkStage => Sys2Proof.Machine.execTrkStage s
  | .linkByte byte elapsed => Sys2Proof.Machine.execLinkByte byte elapsed s
  | .gapTimerExpiry => Sys2Proof.Machine.execGapTimerExpiry s
  | .frameBoundary => Sys2Proof.Machine.execFrameBoundary s
  | .unknownKind kind tag payload => Sys2Proof.Machine.execUnknownKind kind tag payload s
  | .ident tag payload => Sys2Proof.Machine.execIdent tag payload s
  | .readStatus tag payload elapsed => Sys2Proof.Machine.execReadStatus tag payload elapsed s
  | .reset tag payload => Sys2Proof.Machine.execReset tag payload s
  | .clearFault tag payload => Sys2Proof.Machine.execClearFault tag payload s
  | .start tag payload => Sys2Proof.Machine.execStart tag payload s
  | .stop tag payload => Sys2Proof.Machine.execStop tag payload s
  | .calibrate tag payload => Sys2Proof.Machine.execCalibrate tag payload s
  | .setHead tag payload => Sys2Proof.Machine.execSetHead tag payload s
  | .setEncoder tag payload => Sys2Proof.Machine.execSetEncoder tag payload s
  | .splice tag payload => Sys2Proof.Machine.execSplice tag payload s
  | .setLane tag payload => Sys2Proof.Machine.execSetLane tag payload s
  | .armLane tag payload => Sys2Proof.Machine.execArmLane tag payload s
  | .clearLane tag payload => Sys2Proof.Machine.execClearLane tag payload s
  | .setSpot tag payload => Sys2Proof.Machine.execSetSpot tag payload s
  | .setStreak tag payload => Sys2Proof.Machine.execSetStreak tag payload s
  | .setClips tag payload => Sys2Proof.Machine.execSetClips tag payload s
  | .loadTable tag payload => Sys2Proof.Machine.execLoadTable tag payload s
  | .readTable tag payload => Sys2Proof.Machine.execReadTable tag payload s
  | .setPriority tag payload => Sys2Proof.Machine.execSetPriority tag payload s
  | .setFaultAction tag payload => Sys2Proof.Machine.execSetFaultAction tag payload s
  | .setAttention tag payload => Sys2Proof.Machine.execSetAttention tag payload s
  | .readTrack tag payload => Sys2Proof.Machine.execReadTrack tag payload s
  | .listTracks tag payload => Sys2Proof.Machine.execListTracks tag payload s
  | .releaseTrack tag payload => Sys2Proof.Machine.execReleaseTrack tag payload s
  | .readClip tag payload => Sys2Proof.Machine.execReadClip tag payload s
  | .powerOnReset => Sys2Proof.Machine.execPowerOnReset s
  | .pinResetAssert => Sys2Proof.Machine.execPinResetAssert s
  | .pinResetEnd => Sys2Proof.Machine.execPinResetEnd s

end Sys2Proof.Machine
end

