-- ==== Sys2Proof/Machine/Layout.lean ====
section
/-! DEFINITION. The bytes of replies and reports (R163, R170, Tables LXX to LXXIII). -/

namespace Sys2Proof.Machine

/-! ## Items (R170) -/

def byteOf (n : Nat) : List Byte := leBytes 1 n
def two (n : Nat) : List Byte := leBytes 2 n
def three (n : Nat) : List Byte := leBytes 3 n
def four (n : Nat) : List Byte := leBytes 4 n
/-- A line number. -/
def five (n : Nat) : List Byte := leBytes 5 n
def flag (b : Bool) : List Byte := byteOf (boolCode b)

/-- An item that may be absent: a presence byte, and the item when present. -/
def optional {α : Type} (bytes : α → List Byte) : Option α → List Byte
  | none => byteOf 0
  | some v => byteOf 1 ++ bytes v

/-- The mask of a set of numbered members. -/
def maskOf (members : List Nat) : Nat := (members.map (2 ^ ·)).sum

/-- The mask of flags that stand in order from bit 0. -/
def flagMask (flags : List Bool) : Nat := (flags.mapIdx (fun i b => if b then 2 ^ i else 0)).sum

/-! ## Reports -/

/-- The flags of a track with those of its clip, in the places of Table LXXI. -/
def trackMask (f : TrackFlags) (untracked : Bool) : Nat :=
  flagMask [f.merged, f.interrupted, f.degraded, f.large, untracked]

def clipMask (f : ClipFlags) : Nat := flagMask [f.truncated, f.starved, f.damaged, f.wide]

def causeCode : Option CloseCause → Nat
  | none => 0
  | some c => c.code

/-- Table LXXI. -/
def SpotReport.bytes (r : SpotReport) : List Byte :=
  byteOf (r.id.getD 0xFF) ++ byteOf r.lane ++ byteOf r.polarity.code ++ two r.patchNumber ++ five r.firstLine ++
  five r.lastLine ++ two r.columns.lo ++ two r.columns.hi ++ four r.area ++ two r.peakDeviation ++ five r.inspected ++
  byteOf (causeCode r.cause) ++ two (trackMask r.flags r.untracked + 256 * clipMask r.clipFlags) ++ flag r.clipHeld

/-- Table LXXII. -/
def StreakCloseReport.bytes (r : StreakCloseReport) : List Byte :=
  byteOf r.id ++ byteOf r.lane ++ byteOf r.polarity.code ++ byteOf r.origin.code ++ five r.firstLine ++ five r.lastLine ++
  two r.columns.lo ++ two r.columns.hi ++ two (r.peakDeviation.getD 0) ++ two (r.peakAccumulator.getD 0) ++
  five r.inspected ++ two r.patchesCrossed ++ byteOf r.cause.code ++
  two (trackMask r.flags false + 256 * clipMask r.clipFlags) ++ flag r.clipHeld

/-- The origin by the general rule of R170 (log 19). -/
def Origin.plainCode : Origin → Nat
  | .run => 0
  | .integrator => 1
  | .both => 2

/-- An entry figure of a CALIBRATION report, as wide as the entries of its kind (log 20). -/
def figureBytes (k : CalKind) (n : Nat) : List Byte :=
  match k with
  | .dark => byteOf n
  | .bright => two n

/-- Table XXI. -/
def CalReport.bytes (r : CalReport) : List Byte :=
  byteOf r.kind.code ++ byteOf r.mode.code ++ byteOf r.result.code ++ two r.linesUsed ++ two r.dead ++ two r.hot ++
  byteOf (maskOf r.missing) ++
  optional (figureBytes r.kind) (r.figures.map (fun f => f.1)) ++
  optional (figureBytes r.kind) (r.figures.map (fun f => f.2.1)) ++
  optional (figureBytes r.kind) (r.figures.map (fun f => f.2.2))

/-- The payload of a report (R170). -/
def Report.bytes : Report → List Byte
  | .fault source cleared detail line action lost =>
    byteOf source.code ++ flag cleared ++ optional byteOf detail ++ optional five line ++ byteOf action.code ++
      optional byteOf lost
  | .queueLoss lost kinds lines =>
    three lost ++ two (maskOf (kinds.map (·.index))) ++ optional five (lines.map (·.1)) ++ optional five (lines.map (·.2))
  | .state new cause => byteOf new.code ++ byteOf cause.code ++ optional (fun s => byteOf (Source.code s)) cause.source?
  | .void lane number first last bare => byteOf lane ++ two number ++ five first ++ five last ++ two bare
  | .streakOpen id lane polarity origin first columns deviation accumulator =>
    byteOf id ++ byteOf lane ++ byteOf polarity.code ++ byteOf origin.plainCode ++ five first ++ two columns.lo ++
      two columns.hi ++ optional two deviation ++ optional two accumulator
  | .spot r => r.bytes
  | .streakClose r => r.bytes
  | .streakProgress id last columns inspected patches =>
    byteOf id ++ five last ++ two columns.lo ++ two columns.hi ++ five inspected ++ two patches
  | .patch lane number start stop length spots voids short long marks =>
    byteOf lane ++ two number ++ five start ++ five stop ++ five length ++ two spots ++ two voids ++
      byteOf (flagMask [short, long, marks.splice, marks.interrupted])
  | .web resumed line => byteOf (boolCode resumed.isSome) ++ five line ++ optional two resumed
  | .calibration r => r.bytes

/-! ## READ_STATUS (R182, log 14) -/

def SourceStatus.bytes (s : SourceStatus) : List Byte :=
  optional (fun a => byteOf (Action.code a)) s.action ++
  (match s.liveHeads, s.live with
    | some heads, _ => byteOf 1 ++ byteOf (maskOf heads)
    | none, some live => byteOf 1 ++ flag live
    | none, none => byteOf 0) ++
  flag s.latch ++ two s.count

def IctStatus.bytes (s : IctStatus) : List Byte :=
  byteOf s.state.code ++ byteOf s.lastStop.code ++ optional (fun x => byteOf (Source.code x)) s.lastStop.source? ++
  flag s.limitPending ++ byteOf s.resetCause.code ++ flag s.resetSeen ++ (s.sources.map SourceStatus.bytes).flatten

def EncStatus.bytes (s : EncStatus) : List Byte :=
  byteOf s.web.code ++ optional two s.haltedMs ++ five s.nextLine ++ two s.highWater ++ three s.lag ++
  two s.suppression ++ flag s.splicePending ++ flag s.lineLimit ++ optional two s.calRemaining

def HeadStatus.bytes (s : HeadStatus) : List Byte :=
  flag s.enabled ++ byteOf s.delivery ++ optional two s.lastMean ++ flag s.lowLive

def LasStatus.bytes (s : LasStatus) : List Byte :=
  two s.width ++ (s.heads.map HeadStatus.bytes).flatten ++ byteOf s.free ++ byteOf s.assembling ++ byteOf s.complete ++
  flag s.inProcessing ++ two s.pendingDropped ++ three s.droppedTotal

def Location.bytes (l : Location) : List Byte := byteOf l.table.code ++ byteOf l.page ++ byteOf l.index

/-- The code of the close-out wait in the reply (R55): one named value, not started, started or expired (DESIGN CHOICE,
log 14). -/
def CloseOut.code : CloseOut → Nat
  | .notStarted => 0
  | .running _ => 1
  | .expired => 2

def CalRecord.bytes (r : CalRecord) : List Byte :=
  byteOf r.kind.code ++ byteOf r.mode.code ++ two r.lines ++ two r.period ++ two r.target ++ two r.taken ++
  byteOf (maskOf r.missing) ++ byteOf r.closeOut.code

def FfcStatus.bytes (s : FfcStatus) : List Byte :=
  four (maskOf s.darkLoaded) ++ flag s.darkValid ++ four (maskOf s.gainLoaded) ++ flag s.gainValid ++
  optional Location.bytes s.lastBad ++ optional CalRecord.bytes s.record ++
  optional (fun r => byteOf (CalResult.code r)) s.result

/-- The flags of an open patch are members of the set of Table XXX; SHORT and LONG are not yet decided (R71, R170). -/
def CoatedStatus.bytes (c : CoatedStatus) : List Byte :=
  five c.patch.start ++ byteOf (flagMask [false, false, c.patch.flags.splice, c.patch.flags.interrupted]) ++ two c.patch.spots ++
  two c.patch.voids ++ two c.leadGuard ++ byteOf c.bareRun ++ optional five c.bareFirst

def LaneStatus.bytes (l : LaneStatus) : List Byte :=
  flag l.configured ++ flag l.armed ++ byteOf l.change.code ++ byteOf l.state.code ++ two l.patchNumber ++
  byteOf l.enterRun ++ optional five l.enterFirst ++ optional CoatedStatus.bytes l.coated

def SpdStatus.bytes (s : SpdStatus) : List Byte :=
  two s.brightMargin ++ two s.darkMargin ++ byteOf s.gapTolerance ++ optional five s.lastLine ++ two s.kept ++
  two s.discarded ++ two s.overflowLines ++ three s.discardedRuns

def LastResult.bytes (r : LastResult) : List Byte :=
  flag r.mu.isNone ++ five r.line ++ optional two r.mu ++ two r.inBand

/-- The totals of a lane, apart from its last result. -/
def LaneStats.totals (s : LaneStats) : List Byte := two s.unreferenced ++ two s.bright ++ two s.dark ++ two s.greatest

/-- The last results of the lanes, then the totals of each lane, as R104 lists them. -/
def StiStatus.bytes (s : StiStatus) : List Byte :=
  byteOf s.shift ++ two s.tOn ++ two s.tOff ++ (s.lanes.map (fun l => optional LastResult.bytes l.last)).flatten ++
  (s.lanes.map LaneStats.totals).flatten

/-- Numbers with the width of each. -/
def fieldBytes (widths values : List Nat) : List Byte := (List.zipWith leBytes widths values).flatten

def TrkStatus.bytes (s : TrkStatus) : List Byte :=
  byteOf s.freeLength ++ optional byteOf s.freeHead ++ byteOf s.opened ++ byteOf s.tentative ++ byteOf s.held ++
  two s.untracked ++ two s.failures ++ fieldBytes [1, 2, 2, 1, 2] s.spot ++ fieldBytes [1, 2, 3] s.streak ++
  flag s.keepSpot ++ flag s.keepStreak

def ClsStatus.bytes (s : ClsStatus) : List Byte :=
  two s.poolLength ++ optional two s.poolHead ++ byteOf s.margin ++ two s.maximum ++ two s.starved ++ two s.truncated

/-- The code of a report kind (Table LX). -/
def ReportKind.code (k : ReportKind) : Nat := 0x80 + k.index

def RpqStatus.bytes (s : RpqStatus) : List Byte :=
  byteOf s.queued ++ fieldBytes [1, 1, 1] s.byPriority ++ optional (fun k => byteOf (ReportKind.code k)) s.offered ++
  three s.tally ++ two (maskOf (s.lostKinds.map (·.index))) ++ optional five (s.lostLines.map (·.1)) ++
  optional five (s.lostLines.map (·.2)) ++ flag s.overflow ++ flag s.overflowLive ++
  (List.zipWith (fun p n => byteOf p ++ optional byteOf n) s.priority s.pendingPriority).flatten ++
  byteOf s.watermark ++ byteOf s.attention ++ flag s.attn

def LnkStatus.bytes (s : LnkStatus) : List Byte :=
  byteOf s.requests ++ byteOf s.replies ++ flag s.holdOccupied ++ fieldBytes [2, 2, 2, 2] s.rejects

def Status.bytes (s : Status) : List Byte :=
  s.ict.bytes ++ s.enc.bytes ++ s.las.bytes ++ s.ffc.bytes ++ (s.lnc.map LaneStatus.bytes).flatten ++ s.spd.bytes ++
  s.sti.bytes ++ s.trk.bytes ++ s.cls.bytes ++ s.rpq.bytes ++ s.lnk.bytes

/-! ## The other DONE replies -/

def HeadSettings.bytes (c : HeadSettings) : List Byte :=
  flag c.enabled ++ two c.first ++ two c.count ++ two c.refFirst ++ byteOf c.refCount

def EncSettings.bytes (c : EncSettings) : List Byte :=
  fieldBytes [2, 1, 2, 2, 1] [c.countsPerLine, c.glitchWindow, c.standstillTimeout, c.spliceLines, c.direction.code]

def LaneSettings.bytes (c : LaneSettings) : List Byte :=
  fieldBytes [2, 2, 1, 2, 2, 2, 1, 1, 2, 3, 3]
    [c.first, c.last, c.guard, c.lo, c.hi, c.bare, c.enter, c.leave, c.leadGuard, c.lengthMin, c.lengthMax]

/-- Table LXXIII, after the request kind and the track id. -/
def Track.bytes (t : Track) : List Byte :=
  byteOf t.state.code ++
  if t.state = .free then []
  else
    flag true ++ flag t.first ++ byteOf t.kind.code ++ byteOf t.origin.code ++ byteOf t.lane ++ byteOf t.polarity.code ++
    two t.patchNumber ++ five t.firstLine ++ five t.lastLine ++ five t.inspected ++ two t.columns.lo ++ two t.columns.hi ++
    two t.lastSpan.lo ++ two t.lastSpan.hi ++ byteOf t.gap ++ four t.area ++ two (t.peakDeviation.getD 0) ++
    two (t.peakAccumulator.getD 0) ++ two t.patchesCrossed ++ flag t.tentative ++ two (trackMask t.flags false) ++
    byteOf (causeCode t.cause) ++ flag t.clip.valid ++ flag t.clip.first ++ byteOf t.clip.wordsUsed ++ two t.clip.rows ++
    two (256 * clipMask t.clip.flags) ++ byteOf t.clip.blocks.length ++ (t.clip.blocks.map two).flatten

/-- A level of a clip row: NONE has a code that the manual does not give (log 13). -/
def levelBytes : Option Nat → List Byte
  | some v => two v
  | none => two Config.noneLevel.toNat

def ClipRow.bytes (r : ClipRow) : List Byte :=
  two r.index ++ flag r.damaged ++ optional five r.line ++ optional two r.first ++ optional byteOf r.width ++
  (r.levels.map levelBytes).flatten

/-- The contents of a DONE reply, after the request kind (R170). DESIGN CHOICE (log 44): the slot state in the replies of READ_CLIP and
LIST_TRACKS has the codes that Table LXXIII gives it for READ_TRACK, 01 OPEN and 02 HELD. -/
def Done.bytes : Done → List Byte
  | .ident =>
    fieldBytes [2, 2, 1, 1, 2, 1, 1, 2, 1, 1, 1, 2] [0x3A71, 4216, 1, 4, 8192, 16, 64, 1024, 128, 4, 4, 1024]
  | .readStatus s => s.bytes
  | .reset => []
  | .clearFault state => byteOf state.code
  | .start state => byteOf state.code
  | .stop state cause => byteOf state.code ++ byteOf cause.code
  | .calibrate r width =>
    byteOf r.kind.code ++ byteOf r.mode.code ++ two r.lines ++ two r.period ++ two r.target ++ two width
  | .setHead lampSet lampClear heads width invalidated =>
    two lampSet ++ two lampClear ++ (heads.map HeadSettings.bytes).flatten ++ two width ++ flag invalidated
  | .setEncoder c => c.bytes
  | .splice taken lines => flag taken ++ two lines
  | .setLane lane c width => byteOf lane ++ c.bytes ++ two width
  | .armLane lane armed state change => byteOf lane ++ flag armed ++ byteOf state.code ++ byteOf change.code
  | .clearLane lane was => byteOf lane ++ flag was
  | .setSpot values => fieldBytes Request.setSpot.fieldWidths values
  | .setStreak values => fieldBytes Request.setStreak.fieldWidths values
  | .setClips keepSpot keepStreak margin maximum => flag keepSpot ++ flag keepStreak ++ byteOf margin ++ two maximum
  | .loadTable table page pages valid => byteOf table.code ++ byteOf page ++ byteOf pages ++ flag valid
  | .readTable table page inSet bad entries =>
    byteOf table.code ++ byteOf page ++ flag inSet ++ two bad ++
      (entries.map (fun v => match table with
        | .dark => byteOf v
        | .gain => two v)).flatten
  | .setPriority kind priority pending => byteOf kind.code ++ byteOf priority ++ optional byteOf pending
  | .setFaultAction source action => byteOf source.code ++ byteOf action.code
  | .setAttention watermark attention attn => byteOf watermark ++ byteOf attention ++ flag attn
  | .readTrack id t => byteOf id ++ t.bytes
  | .listTracks free tracks => byteOf free ++ (tracks.map (fun e => byteOf e.1 ++ byteOf e.2.code)).flatten
  | .releaseTrack id free => byteOf id ++ byteOf free
  | .readClip id state valid rows blocks flags first returned =>
    byteOf id ++ byteOf state.code ++ flag valid ++ two rows ++ byteOf blocks ++ byteOf (clipMask flags) ++ two first ++
      (returned.map ClipRow.bytes).flatten

/-! ## Frames (R163) -/

/-- The KIND of a reply (Table LXVIII). -/
def ReplyBody.kind : ReplyBody → Byte
  | .done _ => 0x40
  | .refused .. => 0x41
  | .reject _ => 0x42

/-- The payload of a reply (R163). -/
def ReplyBody.bytes : ReplyBody → List Byte
  | .done d => d.request.code :: d.bytes
  | .refused kind reason detail => kind :: (byteOf reason.code ++ two detail)
  | .reject reason => byteOf reason.code

/-- The bytes of the frame that the part sends (R163, Table LXX). -/
def Outgoing.bytes : Outgoing → List Byte
  | .reply r => frameBytes r.body.kind r.tag r.body.bytes
  | .report r => frameBytes (BitVec.ofNat 8 r.kind.code) 0 r.bytes

end Sys2Proof.Machine
end

