-- ==== Sys2Proof/Safety.lean ====
section
/-! DEFINITION. The terms in which claims are stated: when the link is free to take a request, room in the report queue, and the
invariants of the part's collections and settings. -/

namespace Sys2Proof

/-- The row of the opcode table that carries a request's frame. READ_STATUS has no time elapse. -/
def Request.row (r : Request) (tag : Byte) (payload : List Byte) : Instr :=
  match r with
  | .ident => .ident tag payload
  | .readStatus => .readStatus tag payload 0
  | .reset => .reset tag payload
  | .clearFault => .clearFault tag payload
  | .start => .start tag payload
  | .stop => .stop tag payload
  | .calibrate => .calibrate tag payload
  | .setHead => .setHead tag payload
  | .setEncoder => .setEncoder tag payload
  | .splice => .splice tag payload
  | .setLane => .setLane tag payload
  | .armLane => .armLane tag payload
  | .clearLane => .clearLane tag payload
  | .setSpot => .setSpot tag payload
  | .setStreak => .setStreak tag payload
  | .setClips => .setClips tag payload
  | .loadTable => .loadTable tag payload
  | .readTable => .readTable tag payload
  | .setPriority => .setPriority tag payload
  | .setFaultAction => .setFaultAction tag payload
  | .setAttention => .setAttention tag payload
  | .readTrack => .readTrack tag payload
  | .readClip => .readClip tag payload
  | .releaseTrack => .releaseTrack tag payload
  | .listTracks => .listTracks tag payload

namespace Machine

/-! ## When the part is free -/

/-- No procedure waits to go on: neither the STOP procedure (R173) nor the completion of a calibration (R49). -/
def State.nothingDue (s : State) : Prop :=
  ¬(s.ict.state = .stopping ∧ s.las.processing = none) ∧ ∀ r, s.ffc.record = some r → calibrationDue r s = false

/-- At an IDLE transmitter nothing waits to be sent (R165). -/
def State.allSent (s : State) : Prop := s.lnk.tx = none → s.lnk.replies = [] ∧ s.rpq.queue = []

/-- The part is out of reset, no procedure is due, nothing waits for a place of the reply buffer, and nothing for an IDLE
transmitter. -/
def State.serving (s : State) : Prop :=
  s.hold = none ∧ s.nothingDue ∧ s.lnk.requests = [] ∧ s.lnk.inProgress = none ∧ s.lnk.rejectHold = none ∧ s.allSent

/-- The part is free to take a request: it is serving, the receiver is between frames, the reply buffer has a free place, and no
RESET is pending. -/
def State.listening (s : State) : Prop :=
  s.serving ∧ s.lnk.rx = .hunting ∧ s.lnk.gapExpiry = none ∧ s.lnk.replies.length < Config.replyBufferSize ∧
    s.lnk.resetPending = false

/-- The part is out of reset, no procedure is due, no free place of the reply buffer is wanted, and nothing waits for an IDLE
transmitter. Every event of a part out of reset ends so. -/
def State.atRest (s : State) : Prop :=
  s.hold = none ∧ s.nothingDue ∧
    (s.lnk.replies.length < Config.replyBufferSize → s.lnk.claimant = none ∧ s.lnk.rejectHold = none) ∧ s.allSent

/-- A report of the kind would enter the queue (R145, R146). -/
def State.room (s : State) (k : ReportKind) : Prop :=
  s.rpq.queue.length < Config.reportQueueSize ∧ 0 < s.rpq.priorityOf k

/-- The state with one report entered and nothing else changed (R146). -/
def State.withReport (s : State) (r : Report) : State := { s with rpq := s.rpq.enter (s.rpq.priorityOf r.kind) r none }

/-- The state with one reply more in the reply buffer. -/
def State.withReply (s : State) (tag : Byte) (body : ReplyBody) : State :=
  { s with lnk := { s.lnk with replies := s.lnk.replies ++ [{ tag := tag, body := body }] } }

/-- Every OPEN track closed with cause STOPPED, in ascending id order (R121). -/
def State.allClosed (s : State) : State :=
  ((List.range 64).filter (fun id => (s.track id).state = .open)).foldl (fun u id => closeTrack id (u.track id) .stopped u) s

/-- The steps of the STOP procedure before its last: the slots are discarded, every OPEN track is closed, the lanes take their step,
and STOPPED is entered with its STATE report (R173). -/
def State.stopped (s : State) : State :=
  let u := State.allClosed { s with las := s.las.discardSlots (fun sl => sl.state ≠ .free) }
  State.withReport
    { u with lnc := u.lnc.map Lane.stopStep, ict := { u.ict with state := .stopped } } (.state .stopped u.ict.lastStop)

/-- The STOP procedure can run to its end: no OPEN track's record has a wrong word, the closes bring no MEMORY_FATAL, and the last
STATE report has room. -/
def State.stopRuns (s : State) : Prop :=
  (∀ id < 64, (s.track id).state = .open → (s.track id).wrongWords = []) ∧
    let u := State.allClosed { s with las := s.las.discardSlots (fun sl => sl.state ≠ .free) }
    u.ict.state ≠ .faulted ∧ u.room .state

/-- Every table word below the width has a right check. -/
def State.tablesGood (s : State) : Prop :=
  ∀ c, c < s.las.width → (s.ffc.word .dark c).health = .good ∧ (s.ffc.word .gain c).health = .good

/-- Every table word below the width has a right check but the word of table `id` and column `k`, a column that the line has data
for. -/
def State.oneWordWrong (s : State) (sl : Slot) (id : TableId) (k : Nat) (health : Health) : Prop :=
  k < s.las.width ∧ (∀ lo hi, some (lo, hi) ∈ sl.noData → ¬(lo ≤ k ∧ k ≤ hi)) ∧ (s.ffc.word id k).health = health ∧
    ∀ t c, c < s.las.width → (t ≠ id ∨ c ≠ k) → (s.ffc.word t c).health = .good

/-- The words of a table memory after one word has been corrected, nothing else of FFC having changed (R44). -/
def Ffc.corrected (f : Ffc) (id : TableId) (k : Nat) (g : Ffc) : Prop :=
  (∀ t c, g.word t c = if t = id ∧ c = k then { val := (f.word id k).val, health := .good } else f.word t c) ∧
    g.dark.loaded = f.dark.loaded ∧ g.gain.loaded = f.gain.loaded ∧ g.lastBad = f.lastBad ∧ g.record = f.record ∧
    g.active = f.active ∧ g.result = f.result ∧ g.sums = f.sums

/-- FFC after an uncorrectable word has been found: the table's page-loaded set is empty and the location recorded (R45). -/
def Ffc.struck (f : Ffc) (id : TableId) (k : Nat) : Ffc :=
  { f.setTable id { f.table id with loaded := [] } with
    lastBad := some { table := id, page := k / 256, index := k % 256 } }

/-- The pixels that correction gives a line, column by column (R37, R38). -/
def State.corrects (s : State) (sl : Slot) (pixels : List Pixel) : Prop :=
  pixels.length = s.las.width ∧
    ∀ c, c < s.las.width →
      let r := Sparse.get 0 sl.raw c
      let d := (s.ffc.word .dark c).val
      let g := (s.ffc.word .gain c).val
      let lacking : Prop := ∃ lo hi, some (lo, hi) ∈ sl.noData ∧ lo ≤ c ∧ c ≤ hi
      (lacking → pixels[c]? = some .noData) ∧
      (¬lacking → g = 0 → pixels[c]? = some .excluded) ∧
      (¬lacking → 0 < g → r = 1023 → pixels[c]? = some .saturated) ∧
      (¬lacking → 0 < g → r ≠ 1023 → pixels[c]? = some (.level (min (((r - d) * g + 2048) / 4096) 1023)))

/-- Commands one after another. -/
def runAll : List Instr → State → Answer
  | [], s => .next s
  | c :: cs, s =>
    match exec c s with
    | .next t => runAll cs t
    | .fault f => .fault f
    | .refused r => .refused r

/-! ## What an occurrence, an edge and a line do -/

/-- An occurrence of the source is taken with no report lost and no stop begun: its FAULT report is not due or finds room, and its
action is not STOP in RUNNING (R178). -/
def State.takes (s : State) (src : Source) : Prop :=
  (s.ict.action src = .ignore ∨ s.ict.latches.getD src.code false = true ∨ s.room .fault) ∧
    ¬(s.ict.action src = .stop ∧ s.ict.state = .running)

/-- The state with one occurrence counted and latched, and reported when it is the first under REPORT or above (R178). -/
def State.withOccurrence (s : State) (src : Source) (detail line : Option Nat) : State :=
  let t := { s with
    ict := { s.ict with
      counts := s.ict.counts.set src.code (min (s.ict.counts.getD src.code 0 + 1) 65535)
      latches := s.ict.latches.set src.code true } }
  if s.ict.action src ≠ .ignore ∧ s.ict.latches.getD src.code false = false then
    t.withReport (.fault src false detail line (s.ict.action src) none)
  else t

/-- The pair of levels after an edge (R1). -/
def State.pairAfter (s : State) (ch : Channel) (level : Bool) : Bool × Bool :=
  match ch with
  | .a => (level, s.enc.levelB)
  | .b => (s.enc.levelA, level)

/-- The steps of the forward sequence of A_LEADS, which are those of the reverse sequence of B_LEADS (Table IV). -/
def aLeadsForward : List ((Bool × Bool) × (Bool × Bool)) :=
  [((false, false), (true, false)), ((true, false), (true, true)), ((true, true), (false, true)),
   ((false, true), (false, false))]

/-- The edge falls inside the glitch window (R2). -/
def State.edgeIgnored (s : State) (elapsed : Nat) : Prop :=
  ∃ t, s.enc.lastEdge = some t ∧ s.now + elapsed - t < s.enc.settings.glitchWindow

/-- The edge is a forward count (R1, R2, R3). -/
def State.edgeForward (s : State) (ch : Channel) (level : Bool) (elapsed : Nat) : Prop :=
  s.ict.state ≠ .calibrating ∧ ¬s.edgeIgnored elapsed ∧
    match s.enc.settings.direction with
    | .aLeads => ((s.enc.levelA, s.enc.levelB), s.pairAfter ch level) ∈ aLeadsForward
    | .bLeads => (s.pairAfter ch level, (s.enc.levelA, s.enc.levelB)) ∈ aLeadsForward

/-- The edge is a reverse count (R1, R2, R3). -/
def State.edgeReverse (s : State) (ch : Channel) (level : Bool) (elapsed : Nat) : Prop :=
  s.ict.state ≠ .calibrating ∧ ¬s.edgeIgnored elapsed ∧
    match s.enc.settings.direction with
    | .aLeads => (s.pairAfter ch level, (s.enc.levelA, s.enc.levelB)) ∈ aLeadsForward
    | .bLeads => ((s.enc.levelA, s.enc.levelB), s.pairAfter ch level) ∈ aLeadsForward

/-- The clock and the pin after an edge. -/
def State.atEdge (s : State) (ch : Channel) (level : Bool) (elapsed : Nat) : State :=
  { s with
    now := s.now + elapsed
    pins := match ch with
      | .a => { s.pins with encA := level }
      | .b => { s.pins with encB := level } }

/-- ENC after an edge that is accepted and does not count (R1). -/
def State.encAfter (s : State) (ch : Channel) (level : Bool) (elapsed : Nat) : Enc :=
  { s.enc with
    levelA := (s.pairAfter ch level).1, levelB := (s.pairAfter ch level).2, lastEdge := some (s.now + elapsed) }

/-- Slot `i` is the lowest-numbered FREE slot (R23). -/
def State.freeSlotIs (s : State) (i : Nat) : Prop :=
  i < 8 ∧ (s.las.slot i).state = .free ∧ ∀ j, j < i → (s.las.slot j).state ≠ .free

/-- Every enabled head owes no slot: none is late when a line comes (R25). -/
def State.headsReady (s : State) : Prop :=
  s.las.heads.length = 4 ∧ s.las.slots.length = 8 ∧
    ∀ h ∈ s.las.heads, h.settings.enabled = true →
      h.delivery = .idle ∨ h.delivery = .waiting .dropped ∨ h.delivery = .discarding none ∨
        h.delivery = .discarding (some .dropped)

/-- The heads after a new target has reached every enabled one: a head that still discards goes on and owes it, any other waits for
it (R25). -/
def headsGiven (t : Target) (heads : List Head) : List Head :=
  heads.map fun h =>
    if h.settings.enabled then
      match h.delivery with
      | .discarding _ => { h with delivery := .discarding (some t) }
      | _ => { h with delivery := .waiting t }
    else h

/-- LAS after a line has been dropped for want of a FREE slot (R24, R25). -/
def State.lasWithDropped (s : State) (kind : LineKind) : Las :=
  { s.las with
    heads := headsGiven .dropped s.las.heads
    pendingDropped := min (s.las.pendingDropped + 1) 65535, pendingOverrun := true
    droppedTotal := if kind = .run then min (s.las.droppedTotal + 1) 16777215 else s.las.droppedTotal }

/-- LAS after slot `i` has been claimed for a line, every enabled head waiting for it (R23, R25). -/
def State.lasWithLine (s : State) (i : Nat) (kind : LineKind) (number : Nat) (suppressed : Bool) : Las :=
  { s.las with
    slots := s.las.slots.set i
      { Slot.blank with
        state := .assembling, kind := kind, number := number, suppressed := suppressed
        droppedBefore := s.las.pendingDropped, owed := s.las.enabledHeads
        notes := { headLate := false, headShort := false, lineOverrun := s.las.pendingOverrun }
        claim := s.las.claims + 1 }
    heads := headsGiven (.slot i) s.las.heads
    pendingDropped := 0, pendingOverrun := false, claims := s.las.claims + 1 }

/-! ## Invariants -/

/-- The capacities of the report queue, the request queue and the reply buffer are kept (Table III). -/
def State.queuesFit (s : State) : Prop :=
  s.rpq.queue.length ≤ Config.reportQueueSize ∧ s.lnk.requests.length ≤ Config.requestQueueSize ∧
    s.lnk.replies.length ≤ Config.replyBufferSize

/-- Each id 0..63 is either in the free list, exactly once, or the id of a non-FREE slot (R106). -/
def State.idsPartitioned (s : State) : Prop :=
  s.trk.slots.length = 64 ∧
    (s.trk.freeList ++ (List.range 64).filter (fun id => (s.track id).state ≠ .free)).Perm (List.range 64)

/-- Each block 0..1023 is either in the free block pool, exactly once, or in the block list of exactly one track, and a FREE slot
has none (R132). -/
def State.blocksPartitioned (s : State) : Prop :=
  (∀ t ∈ s.trk.slots, t.state = .free → t.clip.blocks = []) ∧
    (s.cls.pool ++ s.trk.slots.flatMap (fun t => t.clip.blocks)).Perm (List.range 1024)

/-- Every setting of SET_ENCODER, SET_SPOT, SET_STREAK, SET_CLIPS and SET_ATTENTION lies in its range (Tables VI, XXXIII, XL, LV,
LXIII), with T_off below T_on (R92). -/
def State.settingsLegal (s : State) : Prop :=
  (1 ≤ s.enc.settings.countsPerLine ∧ s.enc.settings.countsPerLine ≤ 4096 ∧ s.enc.settings.glitchWindow ≤ 255 ∧
    1 ≤ s.enc.settings.standstillTimeout ∧ s.enc.settings.standstillTimeout ≤ 2000 ∧
    s.enc.settings.spliceLines ≤ 4096) ∧
  (s.spd.brightMargin ≤ 1023 ∧ s.spd.darkMargin ≤ 1023 ∧ s.spd.gapTolerance ≤ 3 ∧ s.trk.spotGap ≤ 2 ∧
    1 ≤ s.trk.minArea ∧ s.trk.minArea ≤ 65535 ∧ (s.trk.promote = 0 ∨ (8 ≤ s.trk.promote ∧ s.trk.promote ≤ 4096)) ∧
    1 ≤ s.trk.streakMaxWidth ∧ s.trk.streakMaxWidth ≤ 64 ∧ 1 ≤ s.trk.spotMax ∧ s.trk.spotMax ≤ 4096) ∧
  (1 ≤ s.sti.shift ∧ s.sti.shift ≤ 8 ∧ s.sti.tOff < s.sti.tOn ∧ s.sti.tOn ≤ 32767 ∧ s.trk.streakGap ≤ 64 ∧
    1 ≤ s.trk.streakMin ∧ s.trk.streakMin ≤ 65535 ∧
    (s.trk.progress = 0 ∨ (1000 ≤ s.trk.progress ∧ s.trk.progress ≤ 16777215))) ∧
  (s.cls.margin ≤ 8 ∧ 1 ≤ s.cls.maximum ∧ s.cls.maximum ≤ 1024) ∧
  (1 ≤ s.rpq.watermark ∧ s.rpq.watermark ≤ 128 ∧ 1 ≤ s.rpq.attention ∧ s.rpq.attention ≤ 3)

/-- The canonical form of every memory, the capacities of the queues, the partitions of ids and blocks, and the ranges of the
settings. -/
def State.Inv (s : State) : Prop :=
  s.memoryWf = true ∧ s.queuesFit ∧ s.idsPartitioned ∧ s.blocksPartitioned ∧ s.settingsLegal

/-- Outside RUNNING and STOPPING no line is in processing and no track is OPEN (R121). -/
def State.quiet (s : State) : Prop :=
  s.ict.state ≠ .running → s.ict.state ≠ .stopping → s.las.processing = none ∧ ∀ t ∈ s.trk.slots, t.state ≠ .open

/-! ## Fields of requests -/

/-- The numbers fit the widths of their fields (R170). -/
def fitsWidths (widths values : List Nat) : Prop :=
  values.length = widths.length ∧ ∀ p ∈ widths.zip values, p.2 < 256 ^ p.1

/-- Field `i` is the first that fails its check. -/
def firstBad (ok : List Bool) (i : Nat) : Prop := ok.getD i true = false ∧ ∀ j, j < i → ok.getD j true = true

/-- Every field passes its check. -/
def allOk (ok : List Bool) : Prop := ∀ b ∈ ok, b = true

/-- The row of a request whose payload holds these numbers (R170). -/
def rowOf (r : Request) (tag : Byte) (f : List Nat) : Instr := r.row tag (fieldBytes r.fieldWidths f)

/-- How a request that STOPPED alone takes is refused: FAULTED in FAULTED, BUSY in the states of work, and in STOPPED BAD_LENGTH, or
BAD_VALUE with the index of the first field that fails its check. Nothing changes but the reply buffer. -/
def refusedAsStated (r : Request) (ok : List Nat → List Bool) (s : State) (tag : Byte) : Prop :=
  (∀ payload : List Byte, payload.length ≤ 1024 →
    (s.ict.state = .faulted → exec (r.row tag payload) s = .next (s.withReply tag (.refused r.code .faulted 0)).sends) ∧
    (s.ict.state = .calibrating ∨ s.ict.state = .running ∨ s.ict.state = .stopping →
      exec (r.row tag payload) s = .next (s.withReply tag (.refused r.code .busy 0)).sends) ∧
    (s.ict.state = .stopped → payload.length ≠ r.fieldWidths.sum →
      exec (r.row tag payload) s = .next (s.withReply tag (.refused r.code .badLength 0)).sends)) ∧
  ∀ (f : List Nat) (i : Nat), s.ict.state = .stopped → fitsWidths r.fieldWidths f → firstBad (ok f) i →
    exec (rowOf r tag f) s = .next (s.withReply tag (.refused r.code .badValue i)).sends

end Machine

end Sys2Proof
end

