-- ==== Sys2Proof/Certificates/Slice0/Obligations.lean ====
section
/-! DEFINITION. The statements for the provers. -/

open Sys2Proof Sys2Proof.Machine

/-! ## The queue of commands -/

/-- A step takes the command at the front of the queue and runs it on the state with the queue's rest; on an empty queue the part
idles (the model's choice, log 2). -/
def Obligations.StepRunsFront : Prop :=
  (∀ (s : State) (c : Instr) (rest : List Instr), s.pending = c :: rest → step s = exec c { s with pending := rest }) ∧
    ∀ s : State, s.pending = [] → step s = .next s

/-! ## The receiver -/

/-- R157: in HUNTING a byte A5 begins a frame and any other is discarded; in HELD every byte is discarded, and so is a
request's frame (R160). -/
def Obligations.ByteOutsideFrame : Prop :=
  ∀ (s : State) (b : Byte) (e : Nat), s.atRest →
    (s.lnk.rx = .hunting → b = 0xA5#8 →
      exec (.linkByte b e) s =
        .next { s with now := s.now + e, lnk := { s.lnk with rx := .header [] 0xFFFF#16, gapExpiry := some (s.now + e + 20000) } }) ∧
    (s.lnk.rx = .hunting → b ≠ 0xA5#8 → exec (.linkByte b e) s = .next { s with now := s.now + e }) ∧
    (s.lnk.rx = .held →
      exec (.linkByte b e) s = .next { s with now := s.now + e } ∧
        ∀ (r : Request) (tag : Byte) (payload : List Byte), exec (r.row tag payload) s = .next s)

/-- R159, R160: a second CHECK byte that does not match rejects the frame. The REJECT enters the reply buffer, or, when that is
full, waits in the reject hold with the receiver HELD. R158: the expiry of the gap timer within a frame rejects it with TRUNCATED
and the TAG as received, or 00. R164, R161: at the boundary that frees a place of a full buffer a held REJECT(QUEUE_FULL) takes it, and
the DONE of the STOP in progress goes on waiting. -/
def Obligations.FramesRejected : Prop :=
  (∀ (s : State) (kind tag high b : Byte) (taken : List Byte) (crc : BitVec 16) (e : Nat),
    s.serving → s.lnk.rx = .check kind tag taken crc (some high) → [high, b] ≠ checkBytes crc →
    (s.lnk.replies.length < 4 →
      exec (.linkByte b e) s =
        .next (State.sends { s with
          now := s.now + e
          lnk := { s.lnk with
            rx := .hunting, gapExpiry := none, rejects := s.lnk.rejects.set 0 (min (s.lnk.rejects.getD 0 0 + 1) 65535)
            replies := s.lnk.replies ++ [{ tag := tag, body := .reject .check }] } })) ∧
    (4 ≤ s.lnk.replies.length →
      exec (.linkByte b e) s =
        .next { s with
          now := s.now + e
          lnk := { s.lnk with
            rx := .held, gapExpiry := none, rejects := s.lnk.rejects.set 0 (min (s.lnk.rejects.getD 0 0 + 1) 65535)
            rejectHold := some { tag := tag, body := .reject .check } } })) ∧
  (∀ (s : State) (t : Nat) (tag : Byte), s.serving → s.lnk.gapExpiry = some t → s.lnk.replies.length < 4 →
    ((∃ taken crc, s.lnk.rx = .header taken crc ∧ taken.length < 2 ∧ tag = 0) ∨
      (∃ kind rest crc, s.lnk.rx = .header (kind :: tag :: rest) crc) ∨
      (∃ kind n taken crc, s.lnk.rx = .payload kind tag n taken crc) ∨
      (∃ kind taken crc high, s.lnk.rx = .check kind tag taken crc high)) →
    exec .gapTimerExpiry s =
      .next (State.sends { s with
        now := max s.now t
        lnk := { s.lnk with
          rx := .hunting, gapExpiry := none, rejects := s.lnk.rejects.set 2 (min (s.lnk.rejects.getD 2 0 + 1) 65535)
          replies := s.lnk.replies ++ [{ tag := tag, body := .reject .truncated }] } })) ∧
  (∀ (s : State) (tag stop : Byte) (d r : Reply) (rest : List Reply), s.hold = none → s.nothingDue →
    Outgoing.isResetDone s.lnk.tx = false → s.lnk.replies = r :: rest → rest.length = 3 →
    s.lnk.rejectHold = some { tag := tag, body := .reject .queueFull } →
    s.lnk.inProgress = some { tag := stop, reply := some d } →
    exec .frameBoundary s =
      .next { s with
        lnk := { s.lnk with
          replies := rest ++ [{ tag := tag, body := .reject .queueFull }], rejectHold := none, rx := .hunting
          gapExpiry := none, tx := some (.reply r) } })

/-- The bytes of a frame, one LINK_BYTE each and no time between them, do what the frame's row does (R157, R159, Table LXX; that a
row stands for its frame is the model's choice, log 1). -/
def Obligations.FrameBytesAreTheRow : Prop :=
  ∀ (s : State) (kind tag : Byte) (payload : List Byte), s.listening → payload.length ≤ 1024 →
    runAll ((frameBytes kind tag payload).map (fun b => Instr.linkByte b 0)) s = exec (.unknownKind kind tag payload) s

/-! ## Processing of requests -/

/-- R163: a request to a part that is free is answered by exactly one reply with its TAG, save a STOP that becomes the request in
progress. R165: a frame in transmission goes on; at an IDLE transmitter the reply may begin in the same event. -/
def Obligations.EveryRequestAnsweredOnce : Prop :=
  ∀ (s : State) (r : Request) (tag : Byte) (payload : List Byte), s.listening →
    ∃ t, exec (r.row tag payload) s = .next t ∧ (s.lnk.tx ≠ none → t.lnk.tx = s.lnk.tx) ∧
      let replies : List Reply :=
        (match s.lnk.tx, t.lnk.tx with
          | none, some (.reply r) => [r]
          | _, _ => []) ++ t.lnk.replies
      (∃ body, replies = s.lnk.replies ++ [{ tag := tag, body := body }] ∧ t.lnk.inProgress = none) ∨
        (r = .stop ∧ replies = s.lnk.replies ∧ t.lnk.inProgress = some { tag := tag, reply := none })

/-- R162: a frame whose KIND is no request code is refused with UNKNOWN_KIND, and nothing else changes. -/
def Obligations.UnknownKindRefused : Prop :=
  ∀ (s : State) (kind tag : Byte) (payload : List Byte), s.listening → payload.length ≤ 1024 →
    kind ∉ ([0x01, 0x02, 0x03, 0x04, 0x08, 0x09, 0x0A, 0x10, 0x11, 0x12, 0x18, 0x19, 0x1A, 0x20, 0x21, 0x22, 0x28, 0x29, 0x30,
      0x31, 0x32, 0x38, 0x39, 0x3A, 0x3B] : List Byte) →
    exec (.unknownKind kind tag payload) s = .next (s.withReply tag (.refused kind .unknownKind 0)).sends

/-- Table LXVII, R172: the requests that an inspection state refuses are answered BUSY or FAULTED. R162, Table LXIX: in STOPPED a
payload of another length is refused with BAD_LENGTH. Nothing else changes. -/
def Obligations.GenericChecks : Prop :=
  (∀ (s : State) (r : Request) (tag : Byte) (payload : List Byte), s.listening → payload.length ≤ 1024 →
    (s.ict.state = .faulted → r ∉ [Request.ident, .readStatus, .reset, .clearFault, .loadTable] →
      exec (r.row tag payload) s = .next (s.withReply tag (.refused r.code .faulted 0)).sends) ∧
    (s.ict.state ∈ [Inspection.calibrating, .running, .stopping] →
      r ∈ [Request.setHead, .setEncoder, .setSpot, .setStreak, .setClips, .calibrate, .start, .loadTable] →
      exec (r.row tag payload) s = .next (s.withReply tag (.refused r.code .busy 0)).sends)) ∧
  (∀ (s : State) (tag : Byte) (payload : List Byte), s.listening → s.ict.state = .stopped → payload.length ≤ 1024 →
    (∀ r n, (r, n) ∈ ([(.ident, 0), (.readStatus, 0), (.reset, 0), (.clearFault, 0), (.start, 0), (.stop, 0), (.splice, 0),
        (.listTracks, 0), (.calibrate, 8), (.setHead, 36), (.setEncoder, 8), (.setSpot, 13), (.setStreak, 11), (.setClips, 5),
        (.setLane, 22), (.armLane, 2), (.readTable, 2), (.setPriority, 2), (.setFaultAction, 2), (.setAttention, 2),
        (.clearLane, 1), (.readTrack, 1), (.releaseTrack, 1), (.readClip, 4)] : List (Request × Nat)) →
      payload.length ≠ n → exec (r.row tag payload) s = .next (s.withReply tag (.refused r.code .badLength 0)).sends) ∧
    (payload = [] ∨ (payload.head? = some 0 ∧ payload.length ≠ 258) ∨ (payload.head? = some 1 ∧ payload.length ≠ 514) →
      exec (.loadTable tag payload) s = .next (s.withReply tag (.refused 0x28 .badLength 0)).sends))

/-- R167: IDENT is answered the same in every state, with the twelve items. -/
def Obligations.IdentAnswered : Prop :=
  (∀ (s : State) (tag : Byte), s.listening → exec (.ident tag []) s = .next (s.withReply tag (.done .ident)).sends) ∧
    (ReplyBody.done .ident).bytes =
      [0x01, 0x71, 0x3A, 0x78, 0x10, 0x01, 0x04, 0x00, 0x20, 0x10, 0x40, 0x00, 0x04, 0x80, 0x04, 0x04, 0x00, 0x04]

/-- R182, R154: READ_STATUS shows the part as it stands, then clears RESET_SEEN, the counts, the latches whose live part is not set,
and the QUEUE_OVERFLOW latch at a tally of 0. What it shows, block by block: R182, R17, R35, R55, R74, R90, R104, R128 (with the
three streak track settings, the model's choice of log 33), R140, R154 and R169. -/
def Obligations.ReadStatusAnswered : Prop :=
  (∀ s : State, statusOf s =
    let slotsIn (st : SlotState) : Nat := (s.las.slots.filter (fun sl => sl.state = st)).length
    let low := (List.range 4).filter (fun h => (s.las.head h).lowLive)
    let valid (t : Table) : Bool := (List.range 32).all (fun p => decide (p * 256 < s.las.width → p ∈ t.loaded))
    let tracksIn (st : TrackState) : List Track := s.trk.slots.filter (fun t => t.state = st)
    { ict :=
        { state := s.ict.state, lastStop := s.ict.lastStop, limitPending := s.ict.limitPending
          resetCause := s.ict.resetCause, resetSeen := s.ict.resetSeen
          sources := [Source.encoderGlitch, .headLate, .headShort, .headUnsolicited, .lineOverrun, .runOverflow, .tableFull,
            .referenceLow, .memoryCorrected, .memoryFatal].mapIdx (fun i src =>
              { action := if src = .memoryFatal then none else some (s.ict.action src)
                liveHeads := if src = .referenceLow then some low else none
                live := if src = .tableFull then some (decide (s.trk.freeList = [])) else none
                latch := s.ict.latches.getD i false, count := s.ict.counts.getD i 0 }) }
      enc :=
        { web := s.enc.web
          haltedMs := if s.enc.web = .halted then some (min ((s.now - s.enc.standstillStart) / 10000) 65535) else none
          nextLine := s.enc.nextLine, highWater := s.enc.highWater, lag := s.enc.lag, suppression := s.enc.suppression
          splicePending := s.enc.splicePending, lineLimit := s.enc.lineLimit
          calRemaining := if s.ict.state = .calibrating then some s.enc.calRemaining else none }
      las :=
        { width := s.las.width
          heads := s.las.heads.map (fun h =>
            { enabled := h.settings.enabled, lastMean := h.lastMean, lowLive := h.lowLive
              delivery := match h.delivery with
                | .idle => 0
                | .waiting _ => 1
                | .receiving .. => 2
                | .discarding _ => 3 })
          free := slotsIn .free, assembling := slotsIn .assembling, complete := slotsIn .complete
          inProcessing := decide (s.las.processing ≠ none), pendingDropped := s.las.pendingDropped
          droppedTotal := s.las.droppedTotal }
      ffc :=
        { darkLoaded := s.ffc.dark.loaded, darkValid := valid s.ffc.dark, gainLoaded := s.ffc.gain.loaded
          gainValid := valid s.ffc.gain, lastBad := s.ffc.lastBad, record := s.ffc.record, result := s.ffc.result }
      lnc := s.lnc.map (fun l =>
        { configured := decide (l.settings ≠ none), change := l.change, state := l.state
          armed := decide (l.state ≠ .disarmed ∨ l.change = .arm), patchNumber := l.patchNumber, enterRun := l.enterRun
          enterFirst := if l.enterRun = 0 then none else some l.enterFirst
          coated := if l.state = .coated then
              l.patch.map (fun p =>
                { patch := p, leadGuard := l.leadGuard, bareRun := l.bareRun
                  bareFirst := if l.bareRun = 0 then none else some l.bareFirst })
            else none })
      spd :=
        { brightMargin := s.spd.brightMargin, darkMargin := s.spd.darkMargin, gapTolerance := s.spd.gapTolerance
          lastLine := s.spd.lastLine, kept := s.spd.kept, discarded := s.spd.discarded
          overflowLines := s.spd.overflowLines, discardedRuns := s.spd.discardedRuns }
      sti := { shift := s.sti.shift, tOn := s.sti.tOn, tOff := s.sti.tOff, lanes := s.sti.lanes }
      trk :=
        { freeLength := s.trk.freeList.length, freeHead := s.trk.freeList.head?, opened := (tracksIn .open).length
          tentative := ((tracksIn .open).filter (·.tentative)).length, held := (tracksIn .held).length
          untracked := s.trk.untracked, failures := s.trk.failures
          spot := [s.trk.spotGap, s.trk.minArea, s.trk.promote, s.trk.streakMaxWidth, s.trk.spotMax]
          streak := [s.trk.streakGap, s.trk.streakMin, s.trk.progress]
          keepSpot := s.trk.keepSpot, keepStreak := s.trk.keepStreak }
      cls :=
        { poolLength := s.cls.pool.length, poolHead := s.cls.pool.head?, margin := s.cls.margin, maximum := s.cls.maximum
          starved := s.cls.starved, truncated := s.cls.truncated }
      rpq :=
        { queued := s.rpq.queue.length
          byPriority := [1, 2, 3].map (fun p => (s.rpq.queue.filter (fun r => r.priority = p)).length)
          offered := s.rpq.offered.map (·.report.kind), tally := s.rpq.tally, lostKinds := s.rpq.lostKinds
          lostLines := s.rpq.lostLines, overflow := s.rpq.overflow, overflowLive := decide (s.rpq.tally ≠ 0)
          priority := s.rpq.priority, pendingPriority := s.rpq.pendingPriority, watermark := s.rpq.watermark
          attention := s.rpq.attention, attn := s.attn }
      lnk :=
        { requests := s.lnk.requests.length, replies := s.lnk.replies.length
          holdOccupied := decide (s.lnk.rejectHold ≠ none), rejects := s.lnk.rejects } }) ∧
  ∀ (s : State) (tag : Byte) (e : Nat), s.listening →
    exec (.readStatus tag [] e) s =
      .next (State.withReply
        { s with
          now := s.now + e
          ict := { s.ict with
            resetSeen := false, counts := s.ict.counts.map (fun _ => 0)
            latches := Source.all.map (fun src => s.ict.latches.getD src.code false &&
              ((src == .referenceLow && !s.las.lowHeads.isEmpty) || (src == .tableFull && s.trk.freeList.isEmpty))) }
          rpq := { s.rpq with overflow := s.rpq.overflow && decide (0 < s.rpq.tally) } }
        tag (.done (.readStatus (statusOf { s with now := s.now + e })))).sends

/-! ## Sending -/

/-- R165, R151: at a frame boundary the oldest reply begins; otherwise the offered report, its place taken by QUEUE_LOSS when the tally
is above 0; otherwise the transmitter is IDLE. An event that finds the transmitter IDLE begins the reply or the report that came in
it, and when both came either of the two, but no report while a RESET is pending (R166); in SENDING it begins none. -/
def Obligations.FrameBoundarySends : Prop :=
  (∀ s : State, s.serving → Outgoing.isResetDone s.lnk.tx = false →
    (∀ r rest, s.lnk.replies = r :: rest →
      exec .frameBoundary s = .next { s with lnk := { s.lnk with replies := rest, tx := some (.reply r) } }) ∧
    (∀ v, s.lnk.replies = [] → s.rpq.offered = some v → s.rpq.tally = 0 →
      exec .frameBoundary s =
        .next { s with
          rpq := { s.rpq with queue := s.rpq.queue.erase v }, lnk := { s.lnk with tx := some (.report v.report) } }) ∧
    (∀ v, s.lnk.replies = [] → s.rpq.offered = some v → 0 < s.rpq.tally →
      exec .frameBoundary s =
        .next { s with
          rpq := { s.rpq with
            queue := s.rpq.queue.erase v ++
              [{ report := .queueLoss s.rpq.tally s.rpq.lostKinds s.rpq.lostLines, priority := s.rpq.priority.getD 1 0
                 entry := s.rpq.entries + 1, close := none }]
            entries := s.rpq.entries + 1, tally := 0, lostKinds := [], lostLines := none }
          lnk := { s.lnk with tx := some (.report v.report) } }) ∧
    (s.lnk.replies = [] → s.rpq.queue = [] → exec .frameBoundary s = .next { s with lnk := { s.lnk with tx := none } })) ∧
  ∀ (s : State) (n : Nat),
    let reply (r : Reply) (rest : List Reply) : State :=
      { s with choices := n, lnk := { s.lnk with replies := rest, tx := some (.reply r) } }
    let report (v : Record) : State :=
      { s with choices := n, rpq := s.rpq.leave v, lnk := { s.lnk with tx := some (.report v.report) } }
    (s.lnk.tx ≠ none ∨ (s.lnk.replies = [] ∧ s.rpq.queue = []) → s.sends = s) ∧
    (s.lnk.tx = none →
      (∀ r rest, n = s.choices → s.lnk.replies = r :: rest → s.rpq.queue = [] ∨ s.lnk.resetPending = true →
        s.sends = reply r rest) ∧
      (∀ v, n = s.choices → s.lnk.replies = [] → s.rpq.offered = some v → s.sends = report v) ∧
      (∀ r rest v, n = s.choices + 1 → s.lnk.replies = r :: rest → s.rpq.offered = some v → s.lnk.resetPending = false →
        s.sends = reply r rest ∨ s.sends = report v))

/-- R150: the offered record has the greatest priority, of those the least rank number, and of those the lowest entry serial. -/
def Obligations.OfferIsBest : Prop :=
  ∀ (q : Rpq), (q.queue ≠ [] → ∃ v, q.offered = some v) ∧
    ∀ v, q.offered = some v → v ∈ q.queue ∧
      ∀ r ∈ q.queue, r.priority ≤ v.priority ∧
        (r.priority = v.priority → v.report.kind.index ≤ r.report.kind.index ∧
          (r.report.kind.index = v.report.kind.index → v.entry ≤ r.entry))

/-- R147, R148: a report that finds the queue full takes the place of the record of least priority, lowest rank and least age when it has
a greater priority, and is discarded otherwise; the lost report is counted. R145: a report of priority 0 is not queued and no loss is
counted. R123, R149: a report with a track id that is not queued or is lost sends a notice, which frees the slot of that id when it
is HELD by the close of the notice, and does nothing otherwise. -/
def Obligations.FullQueueLosesOne : Prop :=
  (∀ (q : Rpq) (r : Report) (close : Option Notice), q.priorityOf r.kind = 0 → q.take r close = (q, close)) ∧
  (∀ (s : State) (r : Report) (close : Option Notice),
    let u : State := { s with rpq := (s.rpq.take r close).1 }
    ((s.rpq.take r close).2 = none → post r close s = u) ∧
    ∀ n, (s.rpq.take r close).2 = some n → (s.track n.id).wrongWords = [] →
      ((s.track n.id).state = .held → (s.track n.id).serial = n.serial →
        post r close s =
          { u with
            trk := { s.trk with slots := s.trk.slots.set n.id Track.blank, freeList := s.trk.freeList ++ [n.id] }
            cls := { s.cls with pool := s.cls.pool ++ (s.track n.id).clip.blocks } }) ∧
      ((s.track n.id).state ≠ .held ∨ (s.track n.id).serial ≠ n.serial → post r close s = u)) ∧
  ∀ (q : Rpq) (r : Report) (close : Option Notice), 128 ≤ q.queue.length → 0 < q.priorityOf r.kind →
    ∃ v ∈ q.queue,
      (∀ x ∈ q.queue, v.priority ≤ x.priority ∧
        (x.priority = v.priority → x.report.kind.index ≤ v.report.kind.index ∧
          (x.report.kind.index = v.report.kind.index → x.entry ≤ v.entry))) ∧
      (let lost := if v.priority < q.priorityOf r.kind then v.report else r
       let t := (q.take r close).1
       (if v.priority < q.priorityOf r.kind then
          t.queue = q.queue.erase v ++ [{ report := r, priority := q.priorityOf r.kind, entry := q.entries + 1, close := close }]
        else t.queue = q.queue) ∧
       (q.take r close).2 = (if v.priority < q.priorityOf r.kind then v.close else close) ∧
       t.tally = min (q.tally + 1) 16777215 ∧ (∀ k, k ∈ t.lostKinds ↔ k = lost.kind ∨ k ∈ q.lostKinds) ∧ t.overflow = true ∧
       t.lostLines = (match lost.referenceLine, q.lostLines with
         | none, b => b
         | some n, none => some (n, n)
         | some n, some (lo, hi) => some (min lo n, max hi n)))

/-! ## Resets -/

/-- R166: RESET is answered DONE, the receiver is HELD and the mark set; at the last byte of the DONE every block takes its reset values,
but for the tables with their sets and the geometry record (R36, R56). -/
def Obligations.ResetRequest : Prop :=
  ∀ (s : State) (tag : Byte),
    (s.listening →
      exec (.reset tag []) s =
        .next (State.sends { s with
          lnk := { s.lnk with
            rx := .held, resetPending := true, replies := s.lnk.replies ++ [{ tag := tag, body := .done .reset }] } })) ∧
    (s.hold = none → s.lnk.tx = some (.reply { tag := tag, body := .done .reset }) →
      exec .frameBoundary s =
        .next { State.reset with
          now := s.now, pins := s.pins, choices := s.choices, pending := s.pending
          enc := Enc.reset s.pins.encA s.pins.encB s.now
          las := { State.reset.las with geometry := s.las.geometry }
          ffc := { State.reset.ffc with dark := s.ffc.dark, gain := s.ffc.gain }
          ict := { State.reset.ict with resetCause := .request } })

/-- R177: after a power-on reset and after a pin reset every block holds its reset values, the accepted levels being those of the pins;
while RESET_N is low the part is held in reset, and a power-on reset is then prolonged; while it is held no command but
the resets changes anything other than the clock and the levels at the pins (log 18). -/
def Obligations.PowerOnAndPinReset : Prop :=
  ∀ (s : State) (c : ResetCause),
    let fresh (cause : ResetCause) (hold : Option ResetCause) : State :=
      { State.reset with
        hold := hold, now := s.now, pins := s.pins, choices := s.choices, pending := s.pending
        enc := Enc.reset s.pins.encA s.pins.encB s.now, ict := { State.reset.ict with resetCause := cause } }
    (s.hold = none → exec .powerOnReset s = .next (fresh .powerOn none)) ∧
    (s.hold = some c → exec .powerOnReset s = .next (fresh .powerOn (some .powerOn))) ∧
    (s.hold = none → exec .pinResetAssert s = .next (fresh .pin (some .pin))) ∧
    (s.hold = some c → c ≠ .request → exec .pinResetEnd s = .next (fresh c none)) ∧
    (s.hold ≠ none → ∀ i : Instr, i ∉ [Instr.powerOnReset, .pinResetAssert, .pinResetEnd] →
      ∃ (now : Nat) (pins : Pins), exec i s = .next { s with now := now, pins := { pins with ltrigPulses := s.pins.ltrigPulses } })

/-- The values after a power-on reset, block by block (R18, R36, R56, R75, R91, R105, R129, R141, R155, R168, R177): every item of
Tables VII, XIV, XXXI, XXXVI, XLIII, LII, LVII and LXIV, the input levels being low (the model's choice, log 12). -/
def Obligations.ResetValues : Prop :=
  let s := State.reset
  s.enc.settings = { countsPerLine := 8, glitchWindow := 0, standstillTimeout := 500, spliceLines := 200, direction := .aLeads } ∧
  (s.enc.highWater = 0 ∧ s.enc.lag = 0 ∧ s.enc.nextLine = 0 ∧ s.enc.lineLimit = false ∧ s.enc.web = .halted ∧
    s.enc.standstillExpiry = none ∧ s.enc.splicePending = false ∧ s.enc.suppression = 0 ∧ s.enc.lastEdge = none) ∧
  (s.enc.standstillStart = s.now ∧ s.enc.calExpiry = none ∧ s.enc.calRemaining = 0 ∧ s.enc.levelA = s.pins.encA ∧
    s.enc.levelB = s.pins.encB) ∧
  (s.las.width = 0 ∧ s.las.lampSet = 0 ∧ s.las.lampClear = 1 ∧ (∀ h < 4, (s.las.head h).delivery = .idle) ∧
    (∀ i < 8, (s.las.slot i).state = .free) ∧ s.las.pendingDropped = 0 ∧ s.las.droppedTotal = 0) ∧
  (∀ h < 4, (s.las.head h).settings = { enabled := false, first := 0, count := 2048, refFirst := 0, refCount := 0 } ∧
    (s.las.head h).lastMean = none ∧ (s.las.head h).lowLive = false) ∧
  (s.las.geometry = List.replicate 4 { enabled := false, first := 0, count := 2048 } ∧ s.las.pendingOverrun = false ∧
    s.las.processing = none) ∧
  (s.ffc.dark.loaded = [] ∧ s.ffc.gain.loaded = [] ∧ s.ffc.record = none ∧ s.ffc.lastBad = none) ∧
  (∀ c, s.ffc.word .dark c = { val := 0, health := .good } ∧ s.ffc.word .gain c = { val := 4096, health := .good } ∧
    Sparse.get 0 s.ffc.sums c = 0) ∧
  (∀ i < 16, lane s i = Lane.reset) ∧ (Lane.reset.settings = none ∧ Lane.reset.state = .disarmed ∧ Lane.reset.patchNumber = 0) ∧
  (Lane.reset.change = .none ∧ Lane.reset.enterRun = 0 ∧ Lane.reset.bareRun = 0 ∧ Lane.reset.leadGuard = 0 ∧
    Lane.reset.patch = none ∧ Lane.reset.ended = none) ∧
  (s.spd.brightMargin = 64 ∧ s.spd.darkMargin = 64 ∧ s.spd.gapTolerance = 0) ∧
  (s.spd.lastLine = none ∧ s.spd.kept = 0 ∧ s.spd.discarded = 0 ∧ s.spd.overflowLines = 0 ∧ s.spd.discardedRuns = 0) ∧
  (s.sti.shift = 4 ∧ s.sti.tOn = 1024 ∧ s.sti.tOff = 768 ∧ s.sti.columns = []) ∧
  ((∀ c, Sparse.get quietColumn s.sti.columns c = { acc := 0, alert := none }) ∧
    s.sti.lanes = List.replicate 16 { last := none, unreferenced := 0, bright := 0, dark := 0, greatest := 0 }) ∧
  (s.trk.freeList = List.range 64 ∧ (∀ i < 64, (s.track i).state = .free) ∧ s.trk.spotGap = 1 ∧ s.trk.minArea = 4 ∧
    s.trk.promote = 64 ∧ s.trk.streakMaxWidth = 8 ∧ s.trk.spotMax = 256 ∧ s.trk.streakGap = 8 ∧ s.trk.streakMin = 200 ∧
    s.trk.progress = 0 ∧ s.trk.keepSpot = true ∧ s.trk.keepStreak = false ∧ s.trk.serial = 0) ∧
  ((∀ i < 64, (s.track i).clip.valid = false) ∧ s.trk.inspected = List.replicate 16 0 ∧ s.trk.untracked = 0 ∧
    s.trk.failures = 0) ∧
  (s.cls.pool = List.range 1024 ∧ s.cls.margin = 2 ∧ s.cls.maximum = 64 ∧ s.cls.starved = 0 ∧ s.cls.truncated = 0) ∧
  (s.rpq.queue = [] ∧ s.rpq.priority = [3, 3, 3, 2, 2, 2, 2, 1, 1, 1, 2] ∧ s.rpq.entries = 0 ∧ s.rpq.tally = 0 ∧
    s.rpq.overflow = false ∧ s.rpq.watermark = 96 ∧ s.rpq.attention = 3 ∧ s.attn = false) ∧
  (s.rpq.pendingPriority = List.replicate 11 none ∧ s.rpq.lostKinds = [] ∧ s.rpq.lostLines = none) ∧
  (s.lnk.rx = .hunting ∧ s.lnk.gapExpiry = none ∧ s.lnk.requests = [] ∧ s.lnk.inProgress = none ∧ s.lnk.replies = [] ∧
    s.lnk.rejectHold = none ∧ s.lnk.resetPending = false ∧ s.lnk.tx = none ∧ s.lnk.rejects = [0, 0, 0, 0]) ∧
  (s.ict.state = .stopped ∧ s.ict.lastStop = .reset ∧ s.ict.resetCause = .powerOn ∧ s.ict.resetSeen = true ∧
    s.ict.actions = [.report, .mark, .mark, .report, .mark, .mark, .report, .mark, .ignore] ∧
    s.ict.latches = List.replicate 10 false ∧ s.ict.counts = List.replicate 10 0 ∧ s.ict.limitPending = false)

/-! ## Inspection states and faults -/

/-- R172: START in STOPPED is refused with the set of reasons that stand against it, and otherwise makes every block ready for the run
and enters RUNNING. -/
def Obligations.Start : Prop :=
  ∀ (s : State) (tag : Byte), s.listening → s.ict.state = .stopped →
    let width := (((s.las.heads.map (·.settings)).filter (·.enabled)).map (·.count)).sum
    let noHead : Prop := ∀ h < 4, (s.las.head h).settings.enabled = false
    let darkValid : Prop := ∀ p < 32, p * 256 < width → p ∈ s.ffc.dark.loaded
    let gainValid : Prop := ∀ p < 32, p * 256 < width → p ∈ s.ffc.gain.loaded
    let armed : Prop := ∃ l ∈ s.lnc, l.state ≠ .disarmed ∨ l.change = .arm
    (∀ a b c d : Nat, (noHead ∧ a = 1 ∨ ¬noHead ∧ a = 0) → (darkValid ∧ b = 0 ∨ ¬darkValid ∧ b = 2) →
      (gainValid ∧ c = 0 ∨ ¬gainValid ∧ c = 4) → (armed ∧ d = 0 ∨ ¬armed ∧ d = 8) → 0 < a + b + c + d →
      exec (.start tag []) s = .next (s.withReply tag (.refused 0x08 .notReady (a + b + c + d))).sends) ∧
    (¬noHead → darkValid → gainValid → armed → s.room .state →
      exec (.start tag []) s =
        .next (State.withReply
          (State.withReport
            { s with
              enc := { s.enc with
                nextLine := 0, highWater := 0, lag := 0, splicePending := false, suppression := 0, lineLimit := false }
              las := { s.las.discardSlots (fun sl => sl.state ≠ .free) with
                pendingDropped := 0, pendingOverrun := false, droppedTotal := 0 }
              lnc := s.lnc.map (fun l => if l.state = .ready then { l.dropRun with state := .seeking } else l)
              sti := { s.sti with columns := [], lanes := s.sti.lanes.map (fun _ => LaneStats.reset) }
              trk := { s.trk with inspected := s.trk.inspected.map (fun _ => 0), untracked := 0, failures := 0 }
              spd := { s.spd with lastLine := none, kept := 0, discarded := 0, overflowLines := 0, discardedRuns := 0 }
              cls := { s.cls with starved := 0, truncated := 0 }
              ict := { s.ict with state := .running, limitPending := false } }
            (.state .running s.ict.lastStop))
          tag (.done (.start .running))).sends)

/-- R173, R174, R53, R73: STOP in RUNNING enters STOPPING, and becomes the request in progress while a line is in processing; with no
line in processing the STOP procedure ends in the same event, after closing every OPEN track (R121). In CALIBRATING it ends the
calibration; in STOPPED and STOPPING it is answered as things stand. -/
def Obligations.Stop : Prop :=
  ∀ (s : State) (tag : Byte), s.listening →
    (s.ict.state = .stopped ∨ s.ict.state = .stopping →
      exec (.stop tag []) s = .next (s.withReply tag (.done (.stop s.ict.state s.ict.lastStop))).sends) ∧
    (s.ict.state = .running → s.las.processing ≠ none → s.room .state →
      exec (.stop tag []) s =
        .next (State.withReport
          { s with
            ict := { s.ict with state := .stopping, lastStop := .request, limitPending := false }
            lnk := { s.lnk with inProgress := some { tag := tag, reply := none } } }
          (.state .stopping .request)).sends) ∧
    (s.ict.state = .running → s.las.processing = none → (∀ id < 64, (s.track id).state ≠ .open) →
      s.rpq.queue.length + 2 ≤ 128 → 0 < s.rpq.priorityOf .state →
      exec (.stop tag []) s =
        .next (State.withReply
          (State.withReport
            (State.withReport
              { s with
                las := s.las.discardSlots (fun sl => sl.state ≠ .free)
                lnc := s.lnc.map (fun l =>
                  match l.state, l.change with
                  | .disarmed, .arm => { l.dropRun with state := .ready, change := .none }
                  | .disarmed, _ => l.dropRun
                  | .ready, _ => l.dropRun
                  | _, .disarm => { l.dropRun with state := .disarmed, change := .none }
                  | _, _ => { l.dropRun with state := .ready })
                ict := { s.ict with state := .stopped, lastStop := .request, limitPending := false } }
              (.state .stopping .request))
            (.state .stopped .request))
          tag (.done (.stop .stopped .request))).sends) ∧
    (s.ict.state = .running → s.las.processing = none → s.room .state →
      let u := State.withReport
        { s with ict := { s.ict with state := .stopping, lastStop := .request, limitPending := false } }
        (.state .stopping .request)
      u.stopRuns →
      exec (.stop tag []) s = .next (u.stopped.withReply tag (.done (.stop .stopped .request))).sends ∧
        ∀ id < 64, (u.stopped.track id).state ≠ .open) ∧
    (∀ r, s.ict.state = .calibrating → s.ffc.active = true → s.ffc.record = some r → s.rpq.queue.length + 2 ≤ 128 →
      0 < s.rpq.priorityOf .state → 0 < s.rpq.priorityOf .calibration →
      exec (.stop tag []) s =
        .next (State.withReply
          (State.withReport
            (State.withReport
              { s with
                ffc := { s.ffc with active := false, result := some .aborted }
                las := s.las.discardSlots (fun sl => sl.state ≠ .free && sl.kind == .calibration)
                enc := { s.enc with
                  calExpiry := none, calRemaining := 0
                  standstillExpiry := match s.enc.web with
                    | .moving => some (s.now + s.enc.settings.standstillTimeout * 10000)
                    | .halted => none }
                ict := { s.ict with state := .stopped, lastStop := .request } }
              (.calibration
                { kind := r.kind, mode := r.mode, result := .aborted, linesUsed := r.taken, dead := 0, hot := 0
                  missing := r.missing, figures := none }))
            (.state .stopped .request))
          tag (.done (.stop .stopped .request))).sends)

/-- R181: CLEAR_FAULT moves the part from FAULTED to STOPPED, and in every other state changes nothing. R32: a discarded slot is FREE
with its record lost, and a head that owed it is treated as owing a dropped line. -/
def Obligations.ClearFault : Prop :=
  (∀ (s : State) (tag : Byte), s.listening →
    (s.ict.state ≠ .faulted → exec (.clearFault tag []) s = .next (s.withReply tag (.done (.clearFault s.ict.state))).sends) ∧
    (s.ict.state = .faulted → s.room .state →
      exec (.clearFault tag []) s =
        .next (State.withReply
          (State.withReport
            { s with
              las := s.las.discardSlots (fun sl => sl.state ≠ .free), ict := { s.ict with state := .stopped } }
            (.state .stopped s.ict.lastStop))
          tag (.done (.clearFault .stopped))).sends)) ∧
    ∀ (l : Las) (cond : Slot → Bool), l.slots.length = 8 → l.heads.length = 4 →
      let t := l.discardSlots cond
      (∀ i < 8, t.slot i = if cond (l.slot i) then Slot.blank else l.slot i) ∧
      ∀ h < 4, (t.head h).settings = (l.head h).settings ∧ (t.head h).lastMean = (l.head h).lastMean ∧
        (t.head h).lowLive = (l.head h).lowLive ∧
        (∀ j < 8,
          ((l.head h).delivery = .waiting (.slot j) → (t.head h).delivery =
            if cond (l.slot j) then .waiting .dropped else .waiting (.slot j)) ∧
          (∀ p r, (l.head h).delivery = .receiving j p r → (t.head h).delivery =
            if cond (l.slot j) then .discarding none else .receiving j p r) ∧
          ((l.head h).delivery = .discarding (some (.slot j)) → (t.head h).delivery =
            if cond (l.slot j) then .discarding none else .discarding (some (.slot j)))) ∧
        ((l.head h).delivery = .idle → (t.head h).delivery = .idle)

/-- R179: SET_FAULT_ACTION sets the action of a settable source, and refuses other source and action codes. -/
def Obligations.SetFaultAction : Prop :=
  ∀ (s : State) (tag : Byte) (src act : Nat), s.listening → s.ict.state ≠ .faulted → src < 256 → act < 256 →
    (8 < src → exec (rowOf .setFaultAction tag [src, act]) s = .next (s.withReply tag (.refused 0x31 .badValue 0)).sends) ∧
    (src ≤ 8 → 3 < act → exec (rowOf .setFaultAction tag [src, act]) s = .next (s.withReply tag (.refused 0x31 .badValue 1)).sends) ∧
    (∀ source action,
      (src, source) ∈ [(0, Source.encoderGlitch), (1, .headLate), (2, .headShort), (3, .headUnsolicited), (4, .lineOverrun),
        (5, .runOverflow), (6, .tableFull), (7, .referenceLow), (8, .memoryCorrected)] →
      (act, action) ∈ [(0, Action.ignore), (1, .report), (2, .mark), (3, .stop)] →
      exec (rowOf .setFaultAction tag [src, act]) s =
        .next (State.withReply { s with ict := { s.ict with actions := s.ict.actions.set src action } } tag
          (.done (.setFaultAction source action))).sends)

/-- R178, R173: an occurrence is counted and latched, reported by the first under REPORT and above, and under STOP in RUNNING it begins
the STOP procedure. -/
def Obligations.OccurrenceLadder : Prop :=
  ∀ (s : State) (src : Source) (detail line : Option Nat), src ≠ .memoryFatal →
    (s.takes src → occur src detail line s = s.withOccurrence src detail line) ∧
    (s.ict.action src = .stop → s.ict.state = .running → s.rpq.queue.length + 2 ≤ 128 → 0 < s.rpq.priorityOf .fault →
      0 < s.rpq.priorityOf .state →
      let t := s.withOccurrence src detail line
      occur src detail line s =
        State.withReport
          { t with ict := { t.ict with state := .stopping, lastStop := .fault src, limitPending := false } }
          (.state .stopping (.fault src)))

/-- R180, R127: MEMORY_FATAL abandons the line in processing, drops every track, takes the lanes' step and enters FAULTED with its two
reports; in FAULTED it is counted, and drops all again. -/
def Obligations.MemoryFatalDropsAll : Prop :=
  ∀ s : State,
    let counted : Ict := { s.ict with
      counts := s.ict.counts.set 9 (min (s.ict.counts.getD 9 0 + 1) 65535), latches := s.ict.latches.set 9 true }
    let emptied : State := { s with
      ict := counted
      trk := { s.trk with slots := List.replicate 64 Track.blank, freeList := List.range 64 }
      cls := { s.cls with pool := List.range 1024 } }
    (s.ict.state = .faulted → memoryFatal s = emptied) ∧
    (s.ict.state ≠ .faulted → s.ffc.active = false → s.lnk.inProgress = none → s.las.processing = none →
      s.rpq.queue.length + 2 ≤ 128 → 0 < s.rpq.priorityOf .fault → 0 < s.rpq.priorityOf .state →
      memoryFatal s =
        State.withReport
          (State.withReport
            { emptied with
              lnc := s.lnc.map Lane.stopStep
              ict := { counted with state := .faulted, lastStop := .fault .memoryFatal, limitPending := false } }
            (.fault .memoryFatal false none none .stop
              (some ((s.trk.slots.filter (fun t => t.state ≠ .free)).length))))
          (.state .faulted (.fault .memoryFatal))) ∧
    (∀ p, s.ict.state ≠ .faulted → s.las.processing = some p → p.slot < s.las.slots.length →
      ((memoryFatal s).las.slot p.slot).state = .free ∧ (memoryFatal s).las.processing = none ∧
        (memoryFatal s).ict.state = .faulted)

/-- After every event of a part out of reset no procedure is due, and no free place of the reply buffer is wanted (R49, R160, R161,
R173). -/
def Obligations.EventsSettle : Prop :=
  ∀ (s t : State) (c : Instr), exec c s = .next t → t.hold = none → (c = .pinResetEnd → s.hold ≠ none) → t.atRest

/-! ## Web position and line triggering -/

/-- R1 to R4, Table IV: an accepted edge counts forward, in reverse or not at all; in CALIBRATING it only moves the accepted level, and
inside the glitch window it is ignored with one ENCODER_GLITCH. Of two edges that arrive together, in whichever order, the one on
ENC_A stands first in the queue (log 37). -/
def Obligations.EncoderCounts : Prop :=
  (∀ (queue : List Instr) (a b : Bool) (e : Nat), 0 < e →
    arrive (arrive queue (.encoderEdge .b b e)) (.encoderEdge .a a 0) =
      queue ++ [.encoderEdge .a a e, .encoderEdge .b b 0] ∧
    arrive (arrive queue (.encoderEdge .a a e)) (.encoderEdge .b b 0) =
      queue ++ [.encoderEdge .a a e, .encoderEdge .b b 0]) ∧
  ∀ (s : State) (ch : Channel) (level : Bool) (e : Nat), s.atRest →
    let base := s.atEdge ch level e
    let enc := s.encAfter ch level e
    (s.ict.state = .calibrating → exec (.encoderEdge ch level e) s = .next { base with enc := enc }) ∧
    (s.ict.state ≠ .calibrating → s.edgeIgnored e → s.takes .encoderGlitch →
      exec (.encoderEdge ch level e) s = .next (base.withOccurrence .encoderGlitch none none).sends) ∧
    (s.ict.state ≠ .calibrating → ¬s.edgeIgnored e → s.pairAfter ch level = (s.enc.levelA, s.enc.levelB) →
      exec (.encoderEdge ch level e) s = .next { base with enc := enc }) ∧
    (s.edgeReverse ch level e →
      exec (.encoderEdge ch level e) s = .next { base with enc := { enc with lag := min (s.enc.lag + 1) 16777215 } }) ∧
    (s.edgeForward ch level e → 0 < s.enc.lag →
      exec (.encoderEdge ch level e) s = .next { base with enc := { enc with lag := s.enc.lag - 1 } }) ∧
    (s.edgeForward ch level e → s.enc.lag = 0 → s.enc.highWater + 1 < s.enc.settings.countsPerLine →
      exec (.encoderEdge ch level e) s = .next { base with enc := { enc with highWater := s.enc.highWater + 1 } })

/-- R4, R5, R9, R10, R14, R23, R25: the count that completes a line pitch is a line trigger event. In RUNNING it issues a line, which
claims the lowest FREE slot and reaches every enabled head; in the other states, and once the line limit has been reached (R7), it
acts on the web state alone. R24: a line that finds no FREE slot is dropped, with one LINE_OVERRUN. R7, R175: the line numbered
2^40 − 1 marks the line limit; its stop is held pending, and begins at once when the line is dropped. That the RESUMED report comes
before LINE_OVERRUN is the model's choice (log 10). -/
def Obligations.LineIssued : Prop :=
  ∀ (s : State) (ch : Channel) (level : Bool) (e i : Nat), s.atRest → s.edgeForward ch level e → s.enc.lag = 0 →
    s.enc.settings.countsPerLine ≤ s.enc.highWater + 1 → (s.ict.state = .running → s.enc.web = .halted → s.room .web) →
    let count := if s.enc.splicePending then s.enc.settings.spliceLines else s.enc.suppression
    let base := s.atEdge ch level e
    let enc := { s.encAfter ch level e with
      highWater := 0, web := .moving
      standstillExpiry := some (s.now + e + s.enc.settings.standstillTimeout * 10000) }
    let stood := min ((s.now + e - s.enc.standstillStart) / 10000) 65535
    (s.ict.state ≠ .running → exec (.encoderEdge ch level e) s = .next { base with enc := enc }) ∧
    let resumed (t : State) : State :=
      if s.enc.web = .halted then t.withReport (.web (some stood) s.enc.nextLine) else t
    let issued (las : Las) : State :=
      resumed { base with
        pins := { base.pins with ltrigPulses := s.pins.ltrigPulses + 1 }
        enc := { enc with
          nextLine := if s.enc.nextLine = 1099511627775 then s.enc.nextLine else s.enc.nextLine + 1
          lineLimit := decide (s.enc.nextLine = 1099511627775), splicePending := false, suppression := count - 1 }
        las := las }
    (s.ict.state = .running → s.enc.lineLimit = true →
      exec (.encoderEdge ch level e) s = .next (resumed { base with enc := enc }).sends) ∧
    (s.ict.state = .running → s.enc.lineLimit = false → s.enc.nextLine ≤ 1099511627775 → s.freeSlotIs i → s.headsReady →
      exec (.encoderEdge ch level e) s =
        .next
          (let t := issued (s.lasWithLine i .run s.enc.nextLine (0 < count))
          if s.enc.nextLine = 1099511627775 then { t with ict := { t.ict with limitPending := true } } else t).sends) ∧
    (s.ict.state = .running → s.enc.lineLimit = false → s.enc.nextLine ≤ 1099511627775 →
      (∀ j < 8, (s.las.slot j).state ≠ .free) → s.headsReady →
      let t := issued (s.lasWithDropped .run)
      t.takes .lineOverrun →
      let u := t.withOccurrence .lineOverrun none none
      (s.enc.nextLine < 1099511627775 → exec (.encoderEdge ch level e) s = .next u.sends) ∧
      (s.enc.nextLine = 1099511627775 → s.las.processing ≠ none → u.room .state →
        exec (.encoderEdge ch level e) s =
          .next (State.withReport
            { u with ict := { u.ict with state := .stopping, lastStop := .lineLimit, limitPending := false } }
            (.state .stopping .lineLimit)).sends))

/-- R10, Table V: the expiry of the standstill timer halts the web, with a STANDSTILL report in RUNNING. -/
def Obligations.StandstillExpiry : Prop :=
  ∀ (s : State) (t : Nat), s.atRest → s.enc.standstillExpiry = some t →
    let halted : State := { s with
      now := max s.now t
      enc := { s.enc with web := .halted, standstillExpiry := none, standstillStart := max s.now t } }
    (s.ict.state ≠ .running → exec .standstillTimerExpiry s = .next halted) ∧
    (s.ict.state = .running → s.room .web →
      exec .standstillTimerExpiry s = .next (halted.withReport (.web none s.enc.nextLine)).sends)

/-- R12: a rising edge on SPLICE_IN in RUNNING sets the splice pending mark, and no other edge on it does anything. -/
def Obligations.SpliceInput : Prop :=
  ∀ (s : State) (rising : Bool), s.atRest →
    exec (.spliceIn rising) s =
      .next { s with
        pins := { s.pins with spliceIn := rising }
        enc := { s.enc with splicePending := s.enc.splicePending || (rising && s.ict.state == .running) } }

/-- R13: SPLICE is taken in RUNNING, answered without effect in the other states that accept it, and refused in FAULTED. -/
def Obligations.SpliceRequest : Prop :=
  ∀ (s : State) (tag : Byte), s.listening →
    (s.ict.state = .running →
      exec (.splice tag []) s =
        .next (State.withReply { s with enc := { s.enc with splicePending := true } } tag
          (.done (.splice true s.enc.settings.spliceLines))).sends) ∧
    (s.ict.state = .stopped ∨ s.ict.state = .calibrating ∨ s.ict.state = .stopping →
      exec (.splice tag []) s = .next (s.withReply tag (.done (.splice false s.enc.settings.spliceLines))).sends) ∧
    (s.ict.state = .faulted → exec (.splice tag []) s = .next (s.withReply tag (.refused 0x12 .faulted 0)).sends)

/-- R15, R16: SET_ENCODER takes its five settings together and restarts the position count, or is refused and changes nothing. -/
def Obligations.SetEncoder : Prop :=
  ∀ (s : State) (tag : Byte), s.listening →
    refusedAsStated .setEncoder
      (fun f => [decide (1 ≤ f.getD 0 0 ∧ f.getD 0 0 ≤ 4096), decide (f.getD 1 0 ≤ 255),
        decide (1 ≤ f.getD 2 0 ∧ f.getD 2 0 ≤ 2000), decide (f.getD 3 0 ≤ 4096), decide (f.getD 4 0 ≤ 1)]) s tag ∧
    ∀ (counts window timeout lines : Nat) (direction : Direction), s.ict.state = .stopped → 1 ≤ counts → counts ≤ 4096 →
      window ≤ 255 → 1 ≤ timeout → timeout ≤ 2000 → lines ≤ 4096 →
      let new : EncSettings :=
        { countsPerLine := counts, glitchWindow := window, standstillTimeout := timeout, spliceLines := lines
          direction := direction }
      exec (rowOf .setEncoder tag [counts, window, timeout, lines, if direction = .aLeads then 0 else 1]) s =
        .next (State.withReply { s with enc := { s.enc with settings := new, highWater := 0, lag := 0 } } tag
          (.done (.setEncoder new))).sends

/-- R8, R23, R25, R49: an expiry of the internal line timer issues a calibration line, and starts the next period or, after the last
line, the close-out wait. R24: a line that finds no FREE slot is dropped, with one LINE_OVERRUN. -/
def Obligations.CalibrationTimer : Prop :=
  ∀ (s : State) (t i : Nat) (r : CalRecord), s.atRest → s.ict.state = .calibrating → s.ffc.active = true →
    s.ffc.record = some r → s.enc.calExpiry = some t → s.headsReady →
    let base (las : Las) : State := { s with
      now := max s.now t, pins := { s.pins with ltrigPulses := s.pins.ltrigPulses + 1 }, las := las }
    let period (u : State) : State :=
      { u with enc := { s.enc with calRemaining := s.enc.calRemaining - 1, calExpiry := some (t + s.enc.calPeriod) } }
    let last (u : State) : State :=
      { u with
        enc := { s.enc with calRemaining := 0, calExpiry := none }
        ffc := { s.ffc with record := some { r with closeOut := .running (t + s.enc.calPeriod) } } }
    (s.freeSlotIs i →
      let u := base (s.lasWithLine i .calibration 0 false)
      (1 < s.enc.calRemaining → exec .calibrationTimerExpiry s = .next (period u)) ∧
      (s.enc.calRemaining = 1 → exec .calibrationTimerExpiry s = .next (last u))) ∧
    ((∀ j < 8, (s.las.slot j).state ≠ .free) → s.takes .lineOverrun →
      let u := (base (s.lasWithDropped .calibration)).withOccurrence .lineOverrun none none
      (1 < s.enc.calRemaining → exec .calibrationTimerExpiry s = .next (period u).sends) ∧
      (s.enc.calRemaining = 1 → (∃ sl ∈ s.las.slots, sl.kind = .calibration ∧ sl.state ≠ .free) →
        exec .calibrationTimerExpiry s = .next (last u).sends))

/-- R49, R52, R54, R176: the expiry of the close-out wait leaves a calibration waiting while one of its slots is COMPLETE; otherwise
it completes. That a slot still ASSEMBLING then does not bar it is the model's choice (log 31). With lines taken or none the event ends
in the completion of DarkCalibrationWrites. For a calibration that no line has reached: every enabled head is missing, the result is
INCOMPLETE, no entry is formed and the part returns to STOPPED. -/
def Obligations.CloseOutWait : Prop :=
  ∀ (s : State) (t : Nat) (r : CalRecord), s.atRest → s.ffc.active = true → s.ffc.record = some r →
    r.closeOut = .running t →
    ((∃ sl ∈ s.las.slots, sl.state = .complete ∧ sl.kind = .calibration) →
      exec .closeOutWaitExpiry s =
        .next { s with now := max s.now t, ffc := { s.ffc with record := some { r with closeOut := .expired } } }) ∧
    (s.ict.state = .calibrating → s.enc.calRemaining = 0 → s.las.processing = none →
      (∀ sl ∈ s.las.slots, ¬(sl.state = .complete ∧ sl.kind = .calibration)) → s.lnk.inProgress = none →
      exec .closeOutWaitExpiry s =
        .next (completeCalibration { r with closeOut := .expired }
          { s with now := max s.now t, ffc := { s.ffc with record := some { r with closeOut := .expired } } }).sends) ∧
    (s.ict.state = .calibrating → s.enc.calRemaining = 0 → s.las.processing = none →
      (∀ sl ∈ s.las.slots, ¬(sl.state = .complete ∧ sl.kind = .calibration)) → r.taken = 0 → r.missing = [] →
      s.las.enabledHeads ≠ [] → s.rpq.queue.length + 2 ≤ 128 → 0 < s.rpq.priorityOf .calibration →
      0 < s.rpq.priorityOf .state →
      exec .closeOutWaitExpiry s =
        .next (State.withReport
          (State.withReport
            { s with
              now := max s.now t
              ffc := { s.ffc with
                record := some { r with closeOut := .expired, missing := s.las.enabledHeads }
                active := false, result := some .incomplete }
              las := s.las.discardSlots (fun sl => sl.state ≠ .free && sl.kind == .calibration)
              enc := { s.enc with
                calExpiry := none, calRemaining := 0
                standstillExpiry := match s.enc.web with
                  | .moving => some (max s.now t + s.enc.settings.standstillTimeout * 10000)
                  | .halted => none }
              ict := { s.ict with state := .stopped } }
            (.calibration
              { kind := r.kind, mode := r.mode, result := .incomplete, linesUsed := 0, dead := 0, hot := 0
                missing := s.las.enabledHeads, figures := none }))
          (.state .stopped s.ict.lastStop)).sends)

/-! ## Heads and lines -/

/-- R19, R26: a line-start by the head's delivery state; a disabled head's is ignored. -/
def Obligations.HeadLineStart : Prop :=
  ∀ (s : State) (h : Fin 4), s.atRest →
    let hd := s.las.head h
    let turned (d : Delivery) : State :=
      { s with las := { s.las with heads := s.las.heads.set h { hd with delivery := d } } }
    (hd.settings.enabled = false → exec (.headLineStart h) s = .next s) ∧
    (hd.settings.enabled = true → hd.delivery = .idle ∨ hd.delivery = .discarding none → s.takes .headUnsolicited →
      exec (.headLineStart h) s =
        .next ((turned (.discarding none)).withOccurrence .headUnsolicited (some h.val) none).sends) ∧
    (∀ j, hd.settings.enabled = true →
      hd.delivery = .waiting (.slot j) ∨ hd.delivery = .discarding (some (.slot j)) →
      exec (.headLineStart h) s = .next (turned (.receiving j 0 0))) ∧
    (hd.settings.enabled = true → hd.delivery = .waiting .dropped ∨ hd.delivery = .discarding (some .dropped) →
      exec (.headLineStart h) s = .next (turned (.discarding none))) ∧
    (∀ j p r, hd.settings.enabled = true → hd.delivery = .receiving j p r → lineStart h s = lineStart h (lineEnd h s))

/-- R19, R20, R27: a raw level in RECEIVING goes to its web column when its pixel lies in the used window, and joins the reference sum
when it lies in the reference window; every other raw level is thrown away. -/
def Obligations.HeadRawLevel : Prop :=
  ∀ (s : State) (h : Fin 4) (v : Fin 1024), s.atRest →
    let hd := s.las.head h
    let c := hd.settings
    (∀ j p r, c.enabled = true → hd.delivery = .receiving j p r → p < 2048 → Sparse.wf 0 (s.las.slot j).raw = true →
      ∃ raw : Sparse Nat,
        exec (.headRawLevel h v) s =
          .next { s with
            las := { s.las with
              slots := s.las.slots.set j { s.las.slot j with raw := raw }
              heads := s.las.heads.set h
                { hd with
                  delivery :=
                    .receiving j (p + 1) (if c.refFirst ≤ p ∧ p < c.refFirst + c.refCount then r + v.val else r) } } } ∧
        ∀ column, Sparse.get 0 raw column =
          if c.first ≤ p ∧ p < c.first + c.count ∧ column = s.las.base h + (p - c.first) then v.val
          else Sparse.get 0 (s.las.slot j).raw column) ∧
    (c.enabled = false ∨ (∀ j p r, hd.delivery = .receiving j p r → 2048 ≤ p) →
      exec (.headRawLevel h v) s = .next s)

/-- R28, R29: a line-end in RECEIVING strikes the head from the slot, which is short when the used window was not filled and COMPLETE
when no head owes it any more; a line-end in DISCARDING closes the discarded delivery; any other is ignored. R33, R34: the lamp
monitor evaluates a RUN delivery that holds the whole reference window: a mean below the set level makes REFERENCE_LOW live for the
head, and a mean at or above the clear level ends it. That HEAD_SHORT comes before REFERENCE_LOW is the model's choice (log 10). -/
def Obligations.HeadLineEnd : Prop :=
  (∀ (s : State) (h : Fin 4), s.atRest →
    let hd := s.las.head h
    let c := hd.settings
    let turned (d : Delivery) : State :=
      { s with las := { s.las with heads := s.las.heads.set h { hd with delivery := d } } }
    (∀ j p r, c.enabled = true → 0 < c.count → hd.delivery = .receiving j p r →
      c.refCount = 0 ∨ p < c.refFirst + c.refCount ∨ (s.las.slot j).kind = .calibration →
      let sl := s.las.slot j
      let owed := sl.owed.filter (· ≠ h.val)
      let done : Bool := sl.state == .assembling && owed == []
      let settled (sl : Slot) : State :=
        { turned .idle with
          las := { (turned .idle).las with
            slots := s.las.slots.set j
              { sl with
                owed := owed, state := if done then .complete else sl.state
                degraded := if done then degradedAtCompletion sl.notes s else sl.degraded } } }
      (c.first + c.count ≤ p → exec (.headLineEnd h) s = .next (settled sl)) ∧
      (p < c.first + c.count → s.takes .headShort →
        exec (.headLineEnd h) s =
          .next ((settled
            { sl with
              noData := sl.noData.set h (some (s.las.base h + (p - c.first), s.las.base h + c.count - 1))
              notes := { sl.notes with headShort := true } }).withOccurrence .headShort (some h.val) none).sends)) ∧
    (∀ j p r, c.enabled = true → 0 < c.count → hd.delivery = .receiving j p r → 0 < c.refCount →
      c.refFirst + c.refCount ≤ p → (s.las.slot j).kind = .run → s.las.heads.length = 4 →
      ∀ (u : State) (sl : Slot),
        (c.first + c.count ≤ p ∧ u = s ∧ sl = s.las.slot j ∨
          p < c.first + c.count ∧ s.takes .headShort ∧ u = s.withOccurrence .headShort (some h.val) none ∧
            sl = { s.las.slot j with
              noData := (s.las.slot j).noData.set h (some (s.las.base h + (p - c.first), s.las.base h + c.count - 1))
              notes := { (s.las.slot j).notes with headShort := true } }) →
        let mean := (r + c.refCount / 2) / c.refCount
        let owed := sl.owed.filter (· ≠ h.val)
        let done : Bool := sl.state == .assembling && owed == []
        let finished (low : Bool) : State :=
          let lamp : State := { u with
            las := { u.las with
              heads := s.las.heads.set h { hd with delivery := .idle, lastMean := some mean, lowLive := low } } }
          { lamp with
            las := { lamp.las with
              slots := s.las.slots.set j
                { sl with
                  owed := owed, state := if done then .complete else sl.state
                  degraded := if done then degradedAtCompletion sl.notes lamp else sl.degraded } } }
        (hd.lowLive = false → mean < s.las.lampSet → u.takes .referenceLow →
          exec (.headLineEnd h) s =
            .next ((finished true).withOccurrence .referenceLow (some h.val) none).sends) ∧
        (hd.lowLive = true → s.las.lampClear ≤ mean → s.ict.action .referenceLow = .ignore →
          exec (.headLineEnd h) s = .next (finished false).sends) ∧
        (hd.lowLive = true → s.las.lampClear ≤ mean → s.ict.action .referenceLow ≠ .ignore → u.room .fault →
          exec (.headLineEnd h) s =
            .next ((finished false).withReport
              (.fault .referenceLow true (some h.val) none (s.ict.action .referenceLow) none)).sends) ∧
        (hd.lowLive = false ∧ s.las.lampSet ≤ mean ∨ hd.lowLive = true ∧ mean < s.las.lampClear →
          exec (.headLineEnd h) s = .next (finished hd.lowLive).sends)) ∧
    (c.enabled = true → hd.delivery = .discarding none → exec (.headLineEnd h) s = .next (turned .idle)) ∧
    (∀ t, c.enabled = true → hd.delivery = .discarding (some t) → exec (.headLineEnd h) s = .next (turned (.waiting t))) ∧
    (c.enabled = false ∨ hd.delivery = .idle ∨ (∃ t, hd.delivery = .waiting t) →
      exec (.headLineEnd h) s = .next s)) ∧
    ∀ (notes : Notes) (s : State), degradedAtCompletion notes s = true ↔
      (∃ src, (src = Source.headLate ∧ notes.headLate = true ∨ src = .headShort ∧ notes.headShort = true ∨
          src = .lineOverrun ∧ notes.lineOverrun = true ∨
          src = .referenceLow ∧ (∃ h < 4, (s.las.head h).lowLive = true) ∨ src = .tableFull ∧ s.trk.freeList = []) ∧
        (s.ict.action src = .mark ∨ s.ict.action src = .stop))

/-- R25: a new target that finds a head still owing slot `j` makes it late there: the columns it has not filled are no-data, it is struck
from the slot, and HEAD_LATE is noted and posted. -/
def Obligations.HeadLate : Prop :=
  ∀ (s : State) (h i j : Nat), h < 4 → i < 8 → i ≠ j → (s.las.slot i).state = .assembling → s.takes .headLate →
    s.las.heads.length = 4 → s.las.slots.length = 8 →
    let hd := s.las.head h
    let c := hd.settings
    let sl := s.las.slot j
    let owed := sl.owed.filter (· ≠ h)
    let done : Bool := sl.state == .assembling && owed == []
    let after (d : Delivery) (filled : Nat) : State :=
      let notes := { sl.notes with headLate := true }
      { s with
        las := { s.las with
          heads := s.las.heads.set h { hd with delivery := d }
          slots := s.las.slots.set j
            { sl with
              noData := sl.noData.set h
                (if filled < c.count then some (s.las.base h + filled, s.las.base h + c.count - 1) else none)
              notes := notes, owed := owed, state := if done then .complete else sl.state
              degraded := if done then degradedAtCompletion notes s else sl.degraded } } }
    (hd.delivery = .waiting (.slot j) →
      passTarget (.slot i) h s = (after (.waiting (.slot i)) 0).withOccurrence .headLate (some h) none) ∧
    (∀ p r, hd.delivery = .receiving j p r →
      passTarget (.slot i) h s =
        (after (.discarding (some (.slot i))) (min (p - c.first) c.count)).withOccurrence .headLate (some h) none) ∧
    (hd.delivery = .discarding (some (.slot j)) →
      passTarget (.slot i) h s =
        (after (.discarding (some (.slot i))) 0).withOccurrence .headLate (some h) none)

/-- R21, R22: SET_HEAD checks its fields in index order, then the configured lanes against the new width; an accepted one takes every
setting together, returns changed heads to IDLE, forgets changed lamps, and empties the page-loaded sets when the geometry changed. -/
def Obligations.SetHead : Prop :=
  ∀ (s : State) (tag : Byte), s.listening →
    refusedAsStated .setHead
      (fun f =>
        [decide (f.getD 0 0 ≤ 1022), decide (f.getD 0 0 < f.getD 1 0 ∧ f.getD 1 0 ≤ 1023)] ++
        (List.range 4).flatMap (fun n =>
          let v (k : Nat) : Nat := f.getD (2 + 5 * n + k) 0
          [decide (v 0 ≤ 1), decide (v 1 ≤ 2047), decide (1 ≤ v 2 ∧ v 1 + v 2 ≤ 2048), decide (v 3 ≤ 2047),
           decide (v 4 = 0 ∨ (4 ≤ v 4 ∧ v 4 ≤ 64 ∧ v 3 + v 4 ≤ 2048 ∧ (v 3 + v 4 ≤ v 1 ∨ v 1 + v 2 ≤ v 3)))])) s tag ∧
    ∀ (lampSet lampClear : Nat) (heads : List HeadSettings), s.ict.state = .stopped → lampSet < lampClear →
      lampClear ≤ 1023 → heads.length = 4 → s.las.heads.length = 4 →
      (∀ c ∈ heads, 1 ≤ c.count ∧ c.first + c.count ≤ 2048 ∧ c.refFirst ≤ 2047 ∧
        (c.refCount = 0 ∨ (4 ≤ c.refCount ∧ c.refCount ≤ 64 ∧ c.refFirst + c.refCount ≤ 2048 ∧
          (c.refFirst + c.refCount ≤ c.first ∨ c.first + c.count ≤ c.refFirst)))) →
      let width := ((heads.filter (·.enabled)).map (·.count)).sum
      let row := rowOf .setHead tag
        ([lampSet, lampClear] ++
          heads.flatMap (fun c => [if c.enabled then 1 else 0, c.first, c.count, c.refFirst, c.refCount]))
      let geometry : List Window := heads.map (fun c => { enabled := c.enabled, first := c.first, count := c.count })
      let changed (old c : HeadSettings) : Bool :=
        old.enabled != c.enabled || old.refFirst != c.refFirst || old.refCount != c.refCount
      let new : State := { s with
        las := { s.las with
          lampSet := lampSet, lampClear := lampClear, geometry := geometry
          heads := List.zipWith
            (fun old c =>
              { settings := c, delivery := if old.settings = c then old.delivery else .idle
                lastMean := if changed old.settings c then none else old.lastMean
                lowLive := if changed old.settings c then false else old.lowLive })
            s.las.heads heads }
        ffc := if geometry = s.las.geometry then s.ffc else
          { s.ffc with dark := { s.ffc.dark with loaded := [] }, gain := { s.ffc.gain with loaded := [] } } }
      let done : ReplyBody := .done (.setHead lampSet lampClear heads width (decide (geometry ≠ s.las.geometry)))
      let fits : Prop := ∀ l ∈ s.lnc, ∀ c, l.settings = some c → c.last < width
      (fits → s.las.lowHeads = [] → exec row s = .next (new.withReply tag done).sends) ∧
      (∀ h, fits → s.las.lowHeads = [h] →
        changed (s.las.head h).settings (heads.getD h HeadSettings.default) = true →
        s.ict.action .referenceLow ≠ .ignore → s.room .fault →
        exec row s =
          .next (State.withReply
            (new.withReport (.fault .referenceLow true (some h) none (s.ict.action .referenceLow) none)) tag done).sends) ∧
      (¬fits → ∀ n < 4, (heads.getD n HeadSettings.default).enabled = true →
        (∀ m < 4, n < m → (heads.getD m HeadSettings.default).enabled = false) →
        exec row s = .next (s.withReply tag (.refused 0x10 .badValue (4 + 5 * n))).sends) ∧
      (¬fits → (∀ c ∈ heads, c.enabled = false) → exec row s = .next (s.withReply tag (.refused 0x10 .badValue 2)).sends)

/-! ## Correction and calibration -/

/-- R31, R37, R38: in RUNNING the COMPLETE slot of the lowest line number is handed over and corrected column by column; with a line in
processing, outside RUNNING and CALIBRATING, or with no COMPLETE slot, nothing happens. R44: a table word with one wrong bit is
used corrected and written back, with one MEMORY_CORRECTED. R45: an uncorrectable one empties its table's page-loaded set, is
recorded, and is MEMORY_FATAL with the line still in processing. -/
def Obligations.LineHandover : Prop :=
  (∀ (s : State) (i : Nat), s.atRest → s.ict.state = .running → s.las.processing = none → i < 8 →
    s.las.slots.length = 8 → (s.las.slot i).state = .complete → (s.las.slot i).kind = .run →
    (∀ j < 8, (s.las.slot j).state = .complete → (s.las.slot j).kind = .run →
      (s.las.slot i).number ≤ (s.las.slot j).number ∧ ((s.las.slot i).number = (s.las.slot j).number → i ≤ j)) →
    let sl := s.las.slot i
    let taken (pixels : List Pixel) : State :=
      { s with
        las := { s.las with
          processing := some { slot := i, lnc := false, spd := false, sti := false }
          slots := s.las.slots.set i { sl with pixels := pixels } } }
    (s.tablesGood → ∃ pixels, exec .lineHandover s = .next (taken pixels) ∧ s.corrects sl pixels) ∧
    (∀ id k, s.memoryWf = true → s.oneWordWrong sl id k .single → s.takes .memoryCorrected →
      ∃ pixels ffc, s.ffc.corrected id k ffc ∧ s.corrects sl pixels ∧
        exec .lineHandover s =
          .next (State.withOccurrence { taken pixels with ffc := ffc } .memoryCorrected none none).sends) ∧
    (∀ id k, s.oneWordWrong sl id k .double → s.lnk.inProgress = none →
      exec .lineHandover s =
        .next (memoryFatal
          { s with
            ffc := s.ffc.struck id k
            las := { s.las with
              processing := some { slot := i, lnc := false, spd := false, sti := false } } }).sends)) ∧
  (∀ s : State, s.atRest →
    s.las.processing ≠ none ∨ s.ict.state = .stopped ∨ s.ict.state = .stopping ∨ s.ict.state = .faulted ∨
      (∀ j < 8, (s.las.slot j).state ≠ .complete) →
    exec .lineHandover s = .next s)

/-- R31, R48: in CALIBRATING the COMPLETE slot claimed first is taken into the sums, a head with a no-data range being missing; its
slot becomes FREE, and a pending priority comes into force (R144). R49: when the timer has no more lines to issue, no other slot of the
calibration is COMPLETE, and none is ASSEMBLING or the close-out wait has expired, the event ends in the completion of
DarkCalibrationWrites; that an ASSEMBLING slot does not bar it after the wait is the model's choice (log 31). -/
def Obligations.CalibrationLineTaken : Prop :=
  ∀ (s : State) (i : Nat) (r : CalRecord), s.atRest → s.ict.state = .calibrating → s.ffc.record = some r →
    s.las.processing = none → i < 8 → s.las.slots.length = 8 →
    (s.las.slot i).state = .complete → (s.las.slot i).kind = .calibration →
    (∀ j < 8, (s.las.slot j).state = .complete → (s.las.slot j).kind = .calibration →
      (s.las.slot i).claim ≤ (s.las.slot j).claim ∧ ((s.las.slot i).claim = (s.las.slot j).claim → i ≤ j)) →
    Sparse.wf 0 s.ffc.sums = true →
    let sl := s.las.slot i
    let takes (h : Nat) : Prop := h < 4 ∧ (s.las.head h).settings.enabled = true ∧ sl.noData.getD h none = none
    let others (st : SlotState) : Prop := ∃ j < 8, j ≠ i ∧ (s.las.slot j).state = st ∧ (s.las.slot j).kind = .calibration
    let last : Prop := s.ffc.active = true ∧ s.enc.calRemaining = 0 ∧ ¬others .complete ∧
      (¬others .assembling ∨ r.closeOut = .expired)
    ∃ (sums : Sparse Nat) (missing : List Nat),
      (let record := { r with taken := r.taken + 1, missing := missing }
       let t : State := { s with
         las := { s.las with slots := s.las.slots.set i Slot.blank }
         rpq := s.rpq.applyPending
         ffc := { s.ffc with sums := sums, record := some record } }
       (¬last → exec .lineHandover s = .next t) ∧
       (last → s.lnk.inProgress = none → exec .lineHandover s = .next (completeCalibration record t).sends)) ∧
      (∀ h, h ∈ missing ↔
        h ∈ r.missing ∨ (h < 4 ∧ (s.las.head h).settings.enabled = true ∧ sl.noData.getD h none ≠ none)) ∧
      (∀ h k, takes h → k < (s.las.head h).settings.count →
        Sparse.get 0 sums (s.las.base h + k) =
          Sparse.get 0 s.ffc.sums (s.las.base h + k) + Sparse.get 0 sl.raw (s.las.base h + k)) ∧
      (∀ c, (∀ h, takes h → ¬(s.las.base h ≤ c ∧ c < s.las.base h + (s.las.head h).settings.count)) →
        Sparse.get 0 sums c = Sparse.get 0 s.ffc.sums c)

/-- R50, R52: a DARK calibration with APPLY writes the mean of each column of the heads that are not missing, clamped to 255, and no
other word; the needed pages join the dark table's set when no head is missing. R49: a head that a slot still ASSEMBLING owed is missing
too. R51: BRIGHT writes the gain entries formed from the
means, the target and the dark entries, and an uncorrectable dark word ends it with no entry written (R53). R52, R54: MEASURE writes
nothing; the CALIBRATION report carries the counts and, for MEASURE, the three figures. -/
def Obligations.DarkCalibrationWrites : Prop :=
  (∀ (s : State) (r : CalRecord), s.memoryWf = true → r.kind = .dark → r.mode = .apply → 0 < r.taken →
    let missing (h : Nat) : Prop :=
      h ∈ r.missing ∨ ∃ sl ∈ s.las.slots, sl.state = .assembling ∧ sl.kind = .calibration ∧ h ∈ sl.owed
    let t := completeCalibration r s
    let used (c : Nat) : Prop := ∃ h < 4, (s.las.head h).settings.enabled = true ∧ ¬missing h ∧
      s.las.base h ≤ c ∧ c < s.las.base h + (s.las.head h).settings.count
    (∀ c, used c → t.ffc.word .dark c =
      { val := min ((Sparse.get 0 s.ffc.sums c + r.taken / 2) / r.taken) 255, health := .good }) ∧
    (∀ c, ¬used c → t.ffc.word .dark c = s.ffc.word .dark c) ∧
    t.ffc.gain = s.ffc.gain ∧
    ((∃ h, missing h) → t.ffc.dark.loaded = s.ffc.dark.loaded) ∧
    ((∀ h, ¬missing h) → ∀ p, p ∈ t.ffc.dark.loaded ↔ p ∈ s.ffc.dark.loaded ∨ (p < 32 ∧ p * 256 < s.las.width))) ∧
  ∀ (s : State) (r : CalRecord) (missing : List Nat), s.memoryWf = true → s.ict.state = .calibrating → 0 < r.taken →
    r.missing.Pairwise (· < ·) → missing.Pairwise (· < ·) →
    (∀ h, h ∈ missing ↔
      h ∈ r.missing ∨ ∃ sl ∈ s.las.slots, sl.state = .assembling ∧ sl.kind = .calibration ∧ h ∈ sl.owed) →
    let t := completeCalibration r s
    let cols := ((List.range 4).filter (fun h => (s.las.head h).settings.enabled && !decide (h ∈ missing))).flatMap
      (fun h => (List.range (s.las.head h).settings.count).map (fun k => s.las.base h + k))
    let mean (c : Nat) : Nat := (Sparse.get 0 s.ffc.sums c + r.taken / 2) / r.taken
    let dark (c : Nat) : Nat := (s.ffc.word .dark c).val
    let entry (c : Nat) : Nat :=
      match r.kind with
      | .dark => min (mean c) 255
      | .bright =>
        if mean c < dark c + 8 then 0
        else min (max ((r.target * 4096 + (mean c - dark c) / 2) / (mean c - dark c)) 1) 65535
    let entries := cols.map entry
    let result : CalResult := if missing = [] then .complete else .incomplete
    (r.kind = .bright → r.mode = .apply → (∀ c ∈ cols, (s.ffc.word .dark c).health = .good) →
      (∀ c ∈ cols, t.ffc.word .gain c = { val := entry c, health := .good }) ∧
      (∀ c, c ∉ cols → t.ffc.word .gain c = s.ffc.word .gain c) ∧ t.ffc.dark = s.ffc.dark ∧
      (missing ≠ [] → t.ffc.gain.loaded = s.ffc.gain.loaded) ∧
      (missing = [] → ∀ p, p ∈ t.ffc.gain.loaded ↔ p ∈ s.ffc.gain.loaded ∨ (p < 32 ∧ p * 256 < s.las.width))) ∧
    (∀ k ∈ cols, r.kind = .bright → (s.ffc.word .dark k).health = .double →
      (∀ c ∈ cols, c ≠ k → (s.ffc.word .dark c).health = .good) →
      t.ict.state = .faulted ∧ t.ffc.gain = s.ffc.gain ∧ t.ffc.dark = { s.ffc.dark with loaded := [] } ∧
        t.ffc.lastBad = some { table := .dark, page := k / 256, index := k % 256 }) ∧
    (r.kind = .dark ∨ (∀ c ∈ cols, (s.ffc.word .dark c).health = .good) → s.rpq.queue.length + 2 ≤ 128 →
      0 < s.rpq.priorityOf .calibration → 0 < s.rpq.priorityOf .state →
      (r.mode = .measure → t.ffc.dark = s.ffc.dark ∧ t.ffc.gain = s.ffc.gain) ∧ t.ict.state = .stopped ∧
      t.ffc.active = false ∧ t.ffc.result = some result ∧
      t.rpq = (State.withReport
        (s.withReport
          (.calibration
            { kind := r.kind, mode := r.mode, result := result, linesUsed := r.taken, missing := missing
              dead := match r.kind with
                | .dark => 0
                | .bright => (cols.filter (fun c => decide (mean c < dark c + 8))).length
              hot := match r.kind with
                | .dark => (cols.filter (fun c => decide (255 < mean c))).length
                | .bright => 0
              figures := match r.mode, entries with
                | .apply, _ => none
                | .measure, [] => none
                | .measure, e :: es =>
                  some (es.foldl min e, (entries.sum + entries.length / 2) / entries.length, es.foldl max e) }))
        (.state .stopped s.ict.lastStop)).rpq)

/-- R41, R42: LOAD_TABLE in STOPPED and FAULTED writes its 256 entries with fresh checks and adds the page to the table's set, or is
refused with the index of the first bad field. -/
def Obligations.LoadTable : Prop :=
  ∀ (s : State) (tag : Byte), s.listening → s.ict.state = .stopped ∨ s.ict.state = .faulted →
    (∀ (table : TableId) (page : Nat) (entries : List Nat), page ≤ 31 → entries.length = 256 → s.memoryWf = true →
      (∀ v ∈ entries, v < 256 ^ (entryWidth table)) →
      ∃ ffc : Ffc,
        exec (.loadTable tag
            (BitVec.ofNat 8 (if table = .dark then 0 else 1) :: BitVec.ofNat 8 page ::
              entries.flatMap (leBytes (if table = .dark then 1 else 2)))) s =
          .next (State.withReply { s with ffc := ffc } tag
            (.done (.loadTable table page (ffc.table table).loaded.length
              ((List.range 32).all (fun p => decide (p * 256 < s.las.width → p ∈ (ffc.table table).loaded)))))).sends ∧
        (∀ t c, ffc.word t c =
          if t = table ∧ c / 256 = page then { val := entries.getD (c % 256) 0, health := .good } else s.ffc.word t c) ∧
        (∀ t p, p ∈ (ffc.table t).loaded ↔ p ∈ (s.ffc.table t).loaded ∨ (t = table ∧ p = page)) ∧
        ffc.lastBad = (match s.ffc.lastBad with
          | some l => if l.table = table ∧ l.page = page then none else some l
          | none => none) ∧
        ffc.record = s.ffc.record ∧ ffc.active = s.ffc.active ∧ ffc.result = s.ffc.result ∧ ffc.sums = s.ffc.sums) ∧
    (∀ (table : Byte) (rest : List Byte), 1 < table.toNat → rest.length < 1024 →
      exec (.loadTable tag (table :: rest)) s = .next (s.withReply tag (.refused 0x28 .badValue 0)).sends) ∧
    (∀ (table page : Byte) (rest : List Byte), 31 < page.toNat →
      (table.toNat = 0 ∧ rest.length = 256) ∨ (table.toNat = 1 ∧ rest.length = 512) →
      exec (.loadTable tag (table :: page :: rest)) s = .next (s.withReply tag (.refused 0x28 .badValue 1)).sends)

/-- R43, R45: READ_TABLE returns the 256 entries of a page; with one of them uncorrectable it is returned as 0, the table loses its set,
and MEMORY_FATAL is posted before the reply. R44: a word with one wrong bit is returned corrected and written back, with one
MEMORY_CORRECTED. -/
def Obligations.ReadTable : Prop :=
  ∀ (s : State) (tag : Byte) (table : TableId) (page : Nat), s.listening → s.ict.state ≠ .faulted →
    let row (t p : Nat) : Instr := rowOf .readTable tag [t, p]
    let code := if table = .dark then 0 else 1
    (page ≤ 31 → (∀ i < 256, (s.ffc.word table (page * 256 + i)).health = .good) →
      exec (row code page) s =
        .next (s.withReply tag (.done (.readTable table page (decide (page ∈ (s.ffc.table table).loaded)) 0
          ((List.range 256).map (fun i => (s.ffc.word table (page * 256 + i)).val))))).sends) ∧
    (∀ k < 256, page ≤ 31 → (s.ffc.word table (page * 256 + k)).health = .single → s.memoryWf = true →
      s.takes .memoryCorrected → (∀ i < 256, i ≠ k → (s.ffc.word table (page * 256 + i)).health = .good) →
      ∃ ffc, s.ffc.corrected table (page * 256 + k) ffc ∧
        exec (row code page) s =
          .next (State.withReply (State.withOccurrence { s with ffc := ffc } .memoryCorrected none none) tag
            (.done (.readTable table page (decide (page ∈ (s.ffc.table table).loaded)) 0
              ((List.range 256).map (fun i => (s.ffc.word table (page * 256 + i)).val))))).sends) ∧
    (∀ k < 256, page ≤ 31 → (s.ffc.word table (page * 256 + k)).health = .double →
      (∀ i < 256, i ≠ k → (s.ffc.word table (page * 256 + i)).health = .good) →
      exec (row code page) s =
        .next (State.withReply
          (memoryFatal
            { s with
              ffc := { s.ffc.setTable table { s.ffc.table table with loaded := [] } with
                lastBad := some { table := table, page := page, index := k } } })
          tag
          (.done (.readTable table page false 1
            ((List.range 256).map (fun i => if i = k then 0 else (s.ffc.word table (page * 256 + i)).val))))).sends) ∧
    (∀ t p, 1 < t → t < 256 → p < 256 → exec (row t p) s = .next (s.withReply tag (.refused 0x29 .badValue 0)).sends) ∧
    (31 < page → page < 256 → exec (row code page) s = .next (s.withReply tag (.refused 0x29 .badValue 1)).sends)

/-- R46, R47, R8, R11, R176: CALIBRATE is refused as R46 states, and otherwise enters CALIBRATING with the line timer loaded. -/
def Obligations.Calibrate : Prop :=
  ∀ (s : State) (tag : Byte), s.listening →
    refusedAsStated .calibrate
      (fun f => [decide (f.getD 0 0 ≤ 1), decide (f.getD 1 0 ≤ 1), decide (1 ≤ f.getD 2 0 ∧ f.getD 2 0 ≤ 1024),
        decide (50 ≤ f.getD 3 0 ∧ f.getD 3 0 ≤ 10000), decide (64 ≤ f.getD 4 0 ∧ f.getD 4 0 ≤ 1023)]) s tag ∧
    ∀ (kind : CalKind) (mode : CalMode) (lines period target : Nat), s.ict.state = .stopped → 1 ≤ lines → lines ≤ 1024 →
      50 ≤ period → period ≤ 10000 → 64 ≤ target → target ≤ 1023 →
      let row := rowOf .calibrate tag
        [if kind = .dark then 0 else 1, if mode = .apply then 0 else 1, lines, period, target]
      let r : CalRecord :=
        { kind := kind, mode := mode, lines := lines, period := period, target := target, taken := 0, missing := []
          closeOut := .notStarted }
      let noHead : Prop := ∀ h < 4, (s.las.head h).settings.enabled = false
      let darkInvalid : Prop := kind = .bright ∧ ∃ p < 32, p * 256 < s.las.width ∧ p ∉ s.ffc.dark.loaded
      (noHead → ¬darkInvalid → exec row s = .next (s.withReply tag (.refused 0x0A .notReady 1)).sends) ∧
      (¬noHead → darkInvalid → exec row s = .next (s.withReply tag (.refused 0x0A .notReady 2)).sends) ∧
      (¬noHead → ¬darkInvalid → s.room .state →
        exec row s =
          .next (State.withReply
            (State.withReport
              { s with
                ffc := { s.ffc with record := some r, active := true, sums := [] }
                enc := { s.enc with
                  calExpiry := some (s.now + period * 10), calPeriod := period * 10, calRemaining := lines
                  standstillExpiry := none }
                ict := { s.ict with state := .calibrating } }
              (.state .calibrating s.ict.lastStop))
            tag (.done (.calibrate r s.las.width))).sends)

/-! ## Lanes -/

/-- R57, R58: SET_LANE loads the entry of a lane that is not armed, or is refused with the reason its rule gives. -/
def Obligations.SetLane : Prop :=
  ∀ (s : State) (tag : Byte) (i : Nat) (c : LaneSettings), s.listening → s.ict.state ≠ .faulted →
    let fields := [i, c.first, c.last, c.guard, c.lo, c.hi, c.bare, c.enter, c.leave, c.leadGuard, c.lengthMin, c.lengthMax]
    let row := rowOf .setLane tag fields
    let apart : Bool := (List.range 16).all (fun j => j == i ||
      match (lane s j).settings with
      | some o => decide (¬(o.first ≤ c.first ∧ c.first ≤ o.last) ∧ ¬(c.first ≤ o.last ∧ o.first ≤ c.last))
      | none => true)
    let ok : List Bool :=
      [decide (c.first < s.las.width) && apart, decide (c.first ≤ c.last ∧ c.last < s.las.width),
       decide (c.guard ≤ 255 ∧ c.first + 2 * c.guard + 16 ≤ c.last + 1), decide (c.lo ≤ 1022),
       decide (c.lo < c.hi ∧ c.hi ≤ 1023), decide (c.hi < c.bare ∧ c.bare ≤ 1023),
       decide (1 ≤ c.enter ∧ c.enter ≤ 255), decide (1 ≤ c.leave ∧ c.leave ≤ 255), decide (c.leadGuard ≤ 4095),
       decide (c.lengthMin ≤ 16777215),
       decide (c.lengthMax = 0 ∨ (1 ≤ c.lengthMax ∧ c.lengthMin ≤ c.lengthMax ∧ c.lengthMax ≤ 16777215))]
    let armed : Prop := (lane s i).state ≠ .disarmed ∨ (lane s i).change = .arm
    fitsWidths [1, 2, 2, 1, 2, 2, 2, 1, 1, 2, 3, 3] fields →
    (15 < i → exec row s = .next (s.withReply tag (.refused 0x18 .badValue 0)).sends) ∧
    (i ≤ 15 → armed → exec row s = .next (s.withReply tag (.refused 0x18 .busy 0)).sends) ∧
    (∀ k, i ≤ 15 → ¬armed → firstBad ok k → exec row s = .next (s.withReply tag (.refused 0x18 .badValue (k + 1))).sends) ∧
    (i ≤ 15 → ¬armed → allOk ok →
      exec row s =
        .next (State.withReply { s with lnc := s.lnc.set i { Lane.reset with settings := some c } } tag
          (.done (.setLane i c (c.last + 1 - c.first - 2 * c.guard)))).sends)

/-- R59, R61: CLEAR_LANE empties the entry of a lane that is not armed. -/
def Obligations.ClearLane : Prop :=
  ∀ (s : State) (tag : Byte) (i : Nat), s.listening → i < 256 →
    let row := rowOf .clearLane tag [i]
    let armed : Prop := (lane s i).state ≠ .disarmed ∨ (lane s i).change = .arm
    (s.ict.state = .faulted → exec row s = .next (s.withReply tag (.refused 0x1A .faulted 0)).sends) ∧
    (s.ict.state ≠ .faulted → 15 < i → exec row s = .next (s.withReply tag (.refused 0x1A .badValue 0)).sends) ∧
    (s.ict.state ≠ .faulted → i ≤ 15 → armed → exec row s = .next (s.withReply tag (.refused 0x1A .busy 0)).sends) ∧
    (s.ict.state ≠ .faulted → i ≤ 15 → ¬armed → (lane s i).settings ≠ none →
      exec row s =
        .next (State.withReply { s with lnc := s.lnc.set i Lane.reset } tag (.done (.clearLane i true))).sends) ∧
    (s.ict.state ≠ .faulted → i ≤ 15 → ¬armed → (lane s i).settings = none →
      exec row s = .next (s.withReply tag (.done (.clearLane i false))).sends) ∧
    (Lane.reset.settings = none ∧ Lane.reset.patchNumber = 0 ∧ Lane.reset.enterRun = 0 ∧ Lane.reset.bareRun = 0 ∧
      Lane.reset.leadGuard = 0 ∧ Lane.reset.state = .disarmed ∧ Lane.reset.change = .none)

/-- R60, R61, Table XXV: what ARM_LANE makes of a lane as found, and what it is refused with. -/
def Obligations.ArmLane : Prop :=
  ∀ (s : State) (tag : Byte) (i setting : Nat), s.listening → s.ict.state ≠ .faulted → i < 256 → setting < 256 →
    let row := rowOf .armLane tag [i, setting]
    let l := lane s i
    let working : Prop := l.state = .seeking ∨ l.state = .coated ∨ l.state = .gap
    let becomes (st : LaneState) (change : LaneChange) (armed : Bool) : Prop :=
      exec row s =
        .next (State.withReply { s with lnc := s.lnc.set i { l with state := st, change := change } } tag
          (.done (.armLane i armed st change))).sends
    (15 < i → exec row s = .next (s.withReply tag (.refused 0x19 .badValue 0)).sends) ∧
    (i ≤ 15 → 1 < setting → exec row s = .next (s.withReply tag (.refused 0x19 .badValue 1)).sends) ∧
    (i ≤ 15 → setting = 1 → l.settings = none → exec row s = .next (s.withReply tag (.refused 0x19 .notReady 16)).sends) ∧
    (i ≤ 15 → setting = 1 → l.settings ≠ none →
      (l.state = .disarmed → l.change = .none → s.ict.state ≠ .running → becomes .ready .none true) ∧
      (l.state = .disarmed → l.change = .none → s.ict.state = .running → becomes .disarmed .arm true) ∧
      (l.state = .disarmed → l.change = .arm → becomes .disarmed .arm true) ∧
      (l.state = .ready → l.change = .none → becomes .ready .none true) ∧
      (working → l.change = .none ∨ l.change = .disarm → becomes l.state .none true)) ∧
    (i ≤ 15 → setting = 0 →
      (l.state = .disarmed → l.change = .none ∨ l.change = .arm → becomes .disarmed .none false) ∧
      (l.state = .ready → l.change = .none → becomes .disarmed .none false) ∧
      (working → l.change = .none ∨ l.change = .disarm → becomes l.state .disarm true))

/-- R62 to R64, R69: LNC takes every pending change, then classifies the line for every lane in SEEKING, COATED or GAP, advances the
lane and forms its outcome; a lane disarmed on the line has the outcome LANE_CHANGED. R70: the VOID reports of the line are posted in
its stage, in lane order (the model's choice, log 10). R102, R103: a change taken zeroes the lane's columns and clears its last
result. -/
def Obligations.LncStage : Prop :=
  (∀ (s : State) (p : Processing), s.atRest → s.las.processing = some p → p.lnc = false → s.ict.state ≠ .faulted →
    s.lnc.length = 16 →
    let sl := s.las.slot p.slot
    let line (c : LaneSettings) : LaneLine :=
      let cols := validColumns c sl.pixels
      let bare := (cols.filter (fun v => c.bare ≤ v.level)).length
      { number := sl.number, suppressed := sl.suppressed, droppedBefore := sl.droppedBefore, bareCount := bare
        cls := if cols.length = 0 then .blind else if cols.length ≤ 2 * bare then .bare else .coated }
    let changed (l : Lane) : Lane :=
      match l.change with
      | .none => l
      | .arm => { l.dropRun with state := .seeking, change := .none }
      | .disarm => { l.dropRun with state := .disarmed, change := .none }
    let stepOf (i : Nat) (l : Lane) : Option LaneStep :=
      match l.settings with
      | some c => if l.state = .seeking ∨ l.state = .coated ∨ l.state = .gap then some (l.advance i c (line c)) else none
      | none => none
    let outcome (i : Nat) (l : Lane) (result : LaneResult) (opened ended : Bool) : LaneOutcome :=
      { lane := i, result := result, patchNumber := l.patchNumber, patchOpened := opened, patchEnd := ended
        suppressed := sl.suppressed, droppedBefore := sl.droppedBefore }
    let voids := (List.range 16).filterMap (fun i => (stepOf i (changed (lane s i))).bind (·.void))
    (voids = [] ∨ (s.rpq.queue.length + voids.length ≤ 128 ∧ 0 < s.rpq.priorityOf .void)) →
    exec .lncStage s =
      .next (voids.foldl State.withReport
        { s with
          lnc := s.lnc.mapIdx (fun i l => match stepOf i (changed l) with
            | some st => st.lane
            | none => changed l)
          sti := (List.range 16).foldl
            (fun t i => match (lane s i).change, (lane s i).settings with
              | .none, _ => t
              | _, some c => t.takeChange i c
              | _, none => t)
            s.sti
          las := { s.las with
            processing := some { p with lnc := true }
            slots := s.las.slots.set p.slot
              { sl with
                outcomes := (List.range 16).filterMap (fun i =>
                  if (lane s i).change = .disarm then some (outcome i (lane s i) .laneChanged false false)
                  else (stepOf i (changed (lane s i))).map (fun st => outcome i st.lane st.result st.opened st.ended)) } } }).sends) ∧
  ∀ (t : Sti) (i : Nat) (c : LaneSettings), Sparse.wf quietColumn t.columns = true →
    ∃ columns,
      t.takeChange i c =
        { t with
          columns := columns
          lanes := t.lanes.set i { t.lanes.getD i LaneStats.reset with last := none, bright := 0, dark := 0, greatest := 0 } } ∧
      ∀ k, Sparse.get quietColumn columns k =
        if c.first ≤ k ∧ k ≤ c.last then { acc := 0, alert := none } else Sparse.get quietColumn t.columns k

/-- R65 to R68, R70, Table XXVII: what one line makes of a lane in SEEKING, COATED or GAP. -/
def Obligations.LaneAdvances : Prop :=
  ∀ (index : Nat) (c : LaneSettings) (n : LaneLine) (l : Lane) (p : Patch),
    let seeking : Prop := l.state = .seeking ∨ l.state = .gap
    let coated : Prop := l.state = .coated ∧ l.patch = some p
    let used (cls : LineClass) : Prop := n.suppressed = false ∧ n.cls = cls
    let dropped : Marks := { splice := false, interrupted := decide (0 < n.droppedBefore) }
    let marks : Marks := { splice := n.suppressed, interrupted := decide (0 < n.droppedBefore) }
    let quiet (lane : Lane) (result : LaneResult) : LaneStep :=
      { lane := lane, result := result, opened := false, ended := false, void := none }
    let noEnter (l : Lane) : Lane := { l with enterRun := 0, enterFirst := 0, enterMarks := Marks.none }
    let noBare (l : Lane) : Lane :=
      { l with bareRun := 0, bareFirst := 0, bareLast := 0, bareLargest := 0, bareMarks := Marks.none }
    let guarded (l : Lane) (opened : Bool) (void : Option Report) : LaneStep :=
      if 0 < l.leadGuard then
        { lane := { l with leadGuard := l.leadGuard - 1 }, result := .leadGuard, opened := opened, ended := false
          void := void }
      else { lane := l, result := .inspected, opened := opened, ended := false, void := void }
    -- a coated line in SEEKING or GAP
    (seeking → used .coated → l.enterRun = 0 → 1 < c.enter →
      l.advance index c n =
        quiet { l with enterRun := 1, enterFirst := n.number, enterMarks := Marks.none } .outOfPatch) ∧
    (seeking → used .coated → 0 < l.enterRun → l.enterRun + 1 < c.enter →
      l.advance index c n =
        quiet { l with enterRun := l.enterRun + 1, enterMarks := l.enterMarks.join dropped } .outOfPatch) ∧
    (seeking → used .coated → c.enter ≤ l.enterRun + 1 →
      l.advance index c n =
        guarded
          (noEnter (noBare { l with
            state := .coated, patchNumber := if l.patchNumber = 65535 then 0 else l.patchNumber + 1
            patch := some
              { start := if l.enterRun = 0 then n.number else l.enterFirst
                flags := if l.enterRun = 0 then Marks.none else l.enterMarks.join dropped, spots := 0, voids := 0 }
            leadGuard := c.leadGuard }))
          true none) ∧
    -- a bare line in SEEKING or GAP
    (seeking → used .bare → l.advance index c n = quiet (noEnter l) .outOfPatch) ∧
    -- a coated line in COATED
    (coated → used .coated → l.bareRun = 0 →
      l.advance index c n = guarded { l with patch := some { p with flags := p.flags.join dropped } } false none) ∧
    (coated → used .coated → 0 < l.bareRun →
      l.advance index c n =
        guarded
          (noBare { l with
            patch := some
              { p with flags := (p.flags.join dropped).join l.bareMarks, voids := min (p.voids + 1) 65535 } })
          false (some (.void index l.patchNumber l.bareFirst l.bareLast l.bareLargest))) ∧
    -- a bare line in COATED
    (coated → used .bare → l.bareRun = 0 → 1 < c.leave →
      l.advance index c n =
        quiet
          { l with
            patch := some { p with flags := p.flags.join dropped }, bareRun := 1, bareFirst := n.number
            bareLast := n.number, bareLargest := n.bareCount, bareMarks := Marks.none }
          .bare) ∧
    (coated → used .bare → 0 < l.bareRun → l.bareRun + 1 < c.leave →
      l.advance index c n =
        quiet
          { l with
            bareRun := l.bareRun + 1, bareLast := n.number, bareLargest := max l.bareLargest n.bareCount
            bareMarks := l.bareMarks.join dropped }
          .bare) ∧
    (coated → used .bare → c.leave ≤ l.bareRun + 1 →
      l.advance index c n =
        { lane := noBare { l with
            state := .gap, patch := none
            ended := some
              { patch := if l.bareRun = 0 then { p with flags := p.flags.join dropped } else p
                endLine := (if l.bareRun = 0 then n.number else l.bareFirst) - 1 } }
          result := .bare, opened := false, ended := true, void := none }) ∧
    -- a suppressed or blind line
    (n.suppressed = true ∨ n.cls = .blind →
      let result : LaneResult := if n.suppressed then .suppressed else .blind
      (seeking → 0 < l.enterRun → l.advance index c n = quiet { l with enterMarks := l.enterMarks.join marks } result) ∧
      (seeking → l.enterRun = 0 → l.advance index c n = quiet l result) ∧
      (coated → l.bareRun = 0 →
        l.advance index c n = quiet { l with patch := some { p with flags := p.flags.join marks } } result) ∧
      (coated → 0 < l.bareRun → l.advance index c n = quiet { l with bareMarks := l.bareMarks.join marks } result))

/-! ## Detectors -/

/-- R76, R77, R92, R93: SET_SPOT and SET_STREAK take their settings together, a T_off at or above T_on becoming T_on − 1, or are
refused and change nothing. -/
def Obligations.DetectorSettings : Prop :=
  ∀ (s : State) (tag : Byte), s.listening →
    refusedAsStated .setSpot
      (fun f => [decide (f.getD 0 0 ≤ 1023), decide (f.getD 1 0 ≤ 1023), decide (f.getD 2 0 ≤ 3), decide (f.getD 3 0 ≤ 2),
        decide (1 ≤ f.getD 4 0 ∧ f.getD 4 0 ≤ 65535), decide (f.getD 5 0 = 0 ∨ (8 ≤ f.getD 5 0 ∧ f.getD 5 0 ≤ 4096)),
        decide (1 ≤ f.getD 6 0 ∧ f.getD 6 0 ≤ 64), decide (1 ≤ f.getD 7 0 ∧ f.getD 7 0 ≤ 4096)]) s tag ∧
    refusedAsStated .setStreak
      (fun f => [decide (1 ≤ f.getD 0 0 ∧ f.getD 0 0 ≤ 8), decide (1 ≤ f.getD 1 0 ∧ f.getD 1 0 ≤ 32767),
        decide (f.getD 2 0 ≤ 32767), decide (f.getD 3 0 ≤ 64), decide (1 ≤ f.getD 4 0 ∧ f.getD 4 0 ≤ 65535),
        decide (f.getD 5 0 = 0 ∨ (1000 ≤ f.getD 5 0 ∧ f.getD 5 0 ≤ 16777215))]) s tag ∧
    (∀ bright dark gap spotGap area promote width most : Nat, s.ict.state = .stopped → bright ≤ 1023 → dark ≤ 1023 →
      gap ≤ 3 → spotGap ≤ 2 → 1 ≤ area → area ≤ 65535 → promote = 0 ∨ (8 ≤ promote ∧ promote ≤ 4096) → 1 ≤ width →
      width ≤ 64 → 1 ≤ most → most ≤ 4096 →
      exec (rowOf .setSpot tag [bright, dark, gap, spotGap, area, promote, width, most]) s =
        .next (State.withReply
          { s with
            spd := { s.spd with brightMargin := bright, darkMargin := dark, gapTolerance := gap }
            trk := { s.trk with
              spotGap := spotGap, minArea := area, promote := promote, streakMaxWidth := width, spotMax := most } }
          tag (.done (.setSpot [bright, dark, gap, spotGap, area, promote, width, most]))).sends) ∧
    (∀ shift on off gap least progress : Nat, s.ict.state = .stopped → 1 ≤ shift → shift ≤ 8 → 1 ≤ on → on ≤ 32767 →
      off ≤ 32767 → gap ≤ 64 → 1 ≤ least → least ≤ 65535 →
      progress = 0 ∨ (1000 ≤ progress ∧ progress ≤ 16777215) →
      let set := if on ≤ off then on - 1 else off
      exec (rowOf .setStreak tag [shift, on, off, gap, least, progress]) s =
        .next (State.withReply
          { s with
            sti := { s.sti with shift := shift, tOn := on, tOff := set }
            trk := { s.trk with streakGap := gap, streakMin := least, progress := progress } }
          tag (.done (.setStreak [shift, on, set, gap, least, progress]))).sends)

/-- R78, R84 to R87, R89: SPD's stage keeps the first 256 runs of the line, and posts one RUN_OVERFLOW when there are more. R78: the
lanes taken are the INSPECTED ones, by rising first column. R63, R79: the valid columns of a lane. R80, R81: its bright and dark spot
pixels with their deviations. R82 to R84: the runs of one lane and polarity part its spot pixels, successive members of a run lying at
most 1 + tolerance columns apart and successive runs further; the runs of a lane stand by rising first column, strictly. -/
def Obligations.SpdStage : Prop :=
  (∀ (s : State) (p : Processing), s.atRest → s.las.processing = some p → p.lnc = true → p.spd = false →
    s.ict.state ≠ .faulted → p.slot < s.las.slots.length →
    let sl := s.las.slot p.slot
    let runs := (inspectedLanes s sl).flatMap (fun e => laneRuns s.spd e.1 e.2 sl.pixels)
    let finished (sl : Slot) (spd : Spd) : State :=
      { s with
        spd := spd
        las := { s.las with
          processing := some { p with spd := true }
          slots := s.las.slots.set p.slot { sl with runs := runs.take 256 } } }
    (runs.length ≤ 256 →
      exec .spdStage s =
        .next (finished sl { s.spd with lastLine := some sl.number, kept := runs.length, discarded := 0 })) ∧
    (∀ r, runs[256]? = some r → s.takes .runOverflow →
      exec .spdStage s =
        .next ((finished
            { sl with
              degraded := sl.degraded || s.ict.action .runOverflow == .mark || s.ict.action .runOverflow == .stop }
            { s.spd with
              lastLine := some sl.number, kept := 256, discarded := runs.length - 256
              overflowLines := min (s.spd.overflowLines + 1) 65535
              discardedRuns := min (s.spd.discardedRuns + (runs.length - 256)) 16777215 }).withOccurrence
          .runOverflow (some r.lane) (some sl.number)).sends)) ∧
  (∀ (s : State) (sl : Slot),
    (∀ e, e ∈ inspectedLanes s sl ↔
      ∃ o ∈ sl.outcomes, o.result = .inspected ∧ o.lane = e.1 ∧ (lane s e.1).settings = some e.2) ∧
    (inspectedLanes s sl).Pairwise (fun a b => a.2.first ≤ b.2.first)) ∧
  (∀ (c : LaneSettings) (pixels : List Pixel),
    (validColumns c pixels).Pairwise (fun a b => a.column < b.column) ∧
    ∀ v, v ∈ validColumns c pixels ↔ c.first + c.guard ≤ v.column ∧ v.column + c.guard ≤ c.last ∧
      (pixels[v.column]? = some (.level v.level) ∧ v.saturated = false ∨
        pixels[v.column]? = some .saturated ∧ v.level = 1023 ∧ v.saturated = true)) ∧
  (∀ (t : Spd) (i : Nat) (c : LaneSettings) (pixels : List Pixel), c.lo < c.hi →
    let spots (deviation : ValidColumn → Option Nat) : List SpotPixel :=
      (validColumns c pixels).filterMap fun v =>
        (deviation v).map fun d => { column := v.column, deviation := d, saturated := v.saturated }
    let bright := spots fun v =>
      if v.saturated = true ∨ c.hi + t.brightMargin < v.level then some (v.level - c.hi) else none
    let dark := spots fun v =>
      if 0 < t.darkMargin ∧ v.saturated = false ∧ v.level + t.darkMargin < c.lo then some (c.lo - v.level) else none
    (laneRuns t i c pixels).Perm (runsOf t.gapTolerance i .bright bright ++ runsOf t.gapTolerance i .dark dark) ∧
      (laneRuns t i c pixels).Pairwise (fun a b => a.first < b.first)) ∧
  ∀ (tolerance lane : Nat) (polarity : Polarity) (pixels : List SpotPixel),
    pixels.Pairwise (fun a b => a.column < b.column) →
    let runs := runsOf tolerance lane polarity pixels
    runs.Pairwise (fun a b => a.last + 1 + tolerance < b.first) ∧
    ∃ groups : List (List SpotPixel), groups.flatten = pixels ∧ groups.length = runs.length ∧
      ∀ (k : Nat) (g : List SpotPixel) (r : Run), groups[k]? = some g → runs[k]? = some r →
        r.lane = lane ∧ r.polarity = polarity ∧ r.pixels = g.length ∧ g.head?.map (·.column) = some r.first ∧
        g.getLast?.map (·.column) = some r.last ∧ (∀ m ∈ g, m.deviation ≤ r.peak) ∧ (∃ m ∈ g, m.deviation = r.peak) ∧
        (r.saturated = true ↔ ∃ m ∈ g, m.saturated = true) ∧
        ∀ (n : Nat) (a b : SpotPixel), g[n]? = some a → g[n + 1]? = some b → b.column ≤ a.column + 1 + tolerance

/-- R94 to R100: STI's stage leaves the lane's accumulators and alert states alone when fewer than 16 columns are in band. R95, R96,
R98, R103: a referenced lane has its reference level, every valid column and no other is updated, its alert runs part the ALERT
columns, and its statistics follow. R96, R97, Table XLI: the new accumulator of a column, clamped, and the alert state it gives. -/
def Obligations.StiStage : Prop :=
  (∀ (s : State) (p : Processing), s.atRest → s.las.processing = some p → p.lnc = true → p.sti = false →
    let sl := s.las.slot p.slot
    let lanes := inspectedLanes s sl
    let inBandOf (c : LaneSettings) : Nat :=
      ((validColumns c sl.pixels).filter (fun v => c.lo ≤ v.level ∧ v.level ≤ c.hi)).length
    (exec .stiStage s =
      .next (let r := stiLanes sl.number sl.pixels lanes s.sti
        { s with
          sti := r.1
          las := { s.las with
            processing := some { p with sti := true }
            slots := s.las.slots.set p.slot { sl with alerts := r.2.1, integrated := r.2.2 } } })) ∧
    ((∀ e ∈ lanes, inBandOf e.2 < 16) →
      let r := stiLanes sl.number sl.pixels lanes s.sti
      r.1.columns = s.sti.columns ∧ r.2.1 = [] ∧
        r.2.2 = lanes.map (fun e => { lane := e.1, mu := none, inBand := inBandOf e.2 }))) ∧
  (∀ (number i : Nat) (c : LaneSettings) (pixels : List Pixel) (rest : List (Nat × LaneSettings)) (t : Sti),
    stiLanes number pixels [] t = (t, [], []) ∧
    stiLanes number pixels ((i, c) :: rest) t =
      (let r := t.lane number i c pixels
      let more := stiLanes number pixels rest r.1
      (more.1, r.2.1 ++ more.2.1, r.2.2 :: more.2.2))) ∧
  (∀ (t : Sti) (number i : Nat) (c : LaneSettings) (pixels : List Pixel), Sparse.wf quietColumn t.columns = true →
    let cols := validColumns c pixels
    let band := cols.filter (fun v => c.lo ≤ v.level ∧ v.level ≤ c.hi)
    let k := band.length
    let mu := ((band.map (·.level)).sum + k / 2) / k
    let old := t.lanes.getD i LaneStats.reset
    (k < 16 →
      t.lane number i c pixels =
        ({ t with
          lanes := t.lanes.set i
            { old with
              last := some { line := number, mu := none, inBand := k }, unreferenced := min (old.unreferenced + 1) 65535 } },
         [], { lane := i, mu := none, inBand := k })) ∧
    (16 ≤ k →
      ∃ (columns : Sparse ColumnState) (runs : List AlertRun),
        (∀ v ∈ cols, Sparse.get quietColumn columns v.column = (Sparse.get quietColumn t.columns v.column).update t mu v) ∧
        (∀ n, (∀ v ∈ cols, v.column ≠ n) → Sparse.get quietColumn columns n = Sparse.get quietColumn t.columns n) ∧
        (let states := (List.range (c.last + 1 - c.first)).map (fun n => Sparse.get quietColumn columns (c.first + n))
        t.lane number i c pixels =
          ({ t with
            columns := columns
            lanes := t.lanes.set i
              { old with
                last := some { line := number, mu := some mu, inBand := k }
                bright := (states.filter (fun x => x.alert = some .bright)).length
                dark := (states.filter (fun x => x.alert = some .dark)).length
                greatest := (states.map (fun x => x.acc.natAbs)).foldl max 0 } },
           runs, { lane := i, mu := some mu, inBand := k })) ∧
        ∃ groups : List (List AlertColumn),
          groups.flatten = cols.filterMap (fun v =>
            let x := Sparse.get quietColumn columns v.column
            x.alert.map (fun sign => { column := v.column, sign := sign, magnitude := x.acc.natAbs })) ∧
          groups.length = runs.length ∧
          (∀ (n : Nat) (g : List AlertColumn) (r : AlertRun), groups[n]? = some g → runs[n]? = some r →
            r.lane = i ∧ g.head?.map (·.column) = some r.first ∧ g.getLast?.map (·.column) = some r.last ∧
            (∀ m ∈ g, m.sign = r.polarity ∧ m.magnitude ≤ r.peak) ∧ (∃ m ∈ g, m.magnitude = r.peak) ∧
            ∀ (x : Nat) (a b : AlertColumn), g[x]? = some a → g[x + 1]? = some b → b.column = a.column + 1) ∧
          ∀ (n : Nat) (g h : List AlertColumn) (a b : AlertColumn), groups[n]? = some g → groups[n + 1]? = some h → g.getLast? = some a → h.head? = some b →
            ¬(b.column = a.column + 1 ∧ b.sign = a.sign))) ∧
  (∀ (t : Sti) (mu : Nat) (v : ValidColumn) (c : ColumnState), t.tOff < t.tOn →
    let e : Int := max (-255) (min 255 ((v.level : Int) - mu))
    let decay : Int := if 0 ≤ c.acc then c.acc / 2 ^ t.shift else -((-c.acc) / 2 ^ t.shift)
    let a := (c.update t mu v).acc
    let alert := (c.update t mu v).alert
    a = max (-32767) (min 32767 (c.acc - decay + e)) ∧
    (c.alert = none → (a.natAbs < t.tOn → alert = none) ∧ ((t.tOn : Int) ≤ a → 0 < a → alert = some .bright) ∧
      (a ≤ -(t.tOn : Int) → a < 0 → alert = some .dark)) ∧
    (c.alert = some .bright →
      ((t.tOff : Int) ≤ a → 0 < a → alert = some .bright) ∧ (0 < a → a < t.tOff → alert = none) ∧
      (a ≤ 0 → a.natAbs < t.tOn → alert = none) ∧ (a ≤ -(t.tOn : Int) → alert = some .dark)) ∧
    (c.alert = some .dark →
      (a ≤ -(t.tOff : Int) → a < 0 → alert = some .dark) ∧ (a < 0 → -(t.tOff : Int) < a → alert = none) ∧
      (0 ≤ a → a.natAbs < t.tOn → alert = none) ∧ ((t.tOn : Int) ≤ a → alert = some .bright)))

/-! ## Tracks and clips -/

/-- R109, R108, R31, R144: TRK's stage of a line advances the inspected line counts, takes the runs and then the alert runs, asks for the
clip rows, takes the end of the line for each OPEN track, posts the PATCH reports of the patches ended (R71), and ends the line's
processing. In STOPPING the STOP procedure then goes on and answers the STOP in progress (R173), and the last line of a run at the
line limit begins the stop held pending (R175). R114 to R118: the end of the line for one track. That a line's PATCH reports are posted in
lane order, and the record of an OPEN track read at its turn, are the model's choices (logs 10 and 9). -/
def Obligations.TrkStage : Prop :=
  (∀ (s : State) (p : Processing), s.atRest → s.ict.state = .running → s.ict.limitPending = false →
    s.las.processing = some p → p.lnc = true → p.spd = true → p.sti = true →
    (s.las.slot p.slot).runs = [] → (s.las.slot p.slot).alerts = [] → (∀ id < 64, (s.track id).state ≠ .open) →
    (∀ i < 16, (lane s i).ended = none) →
    exec .trkStage s =
      .next { s with
        las := { s.las with slots := s.las.slots.set p.slot Slot.blank, processing := none }
        rpq := { s.rpq with
          priority := List.zipWith (fun p n => n.getD p) s.rpq.priority s.rpq.pendingPriority
          pendingPriority := s.rpq.pendingPriority.map (fun _ => none) }
        trk := { s.trk with
          inspected := s.trk.inspected.mapIdx (fun i n =>
            if (s.las.slot p.slot).outcomes.any (fun o => o.lane == i && o.result == .inspected) then n + 1 else n)
          slots := s.trk.slots.map (fun t =>
            { t with matchSpan := { lo := 0, hi := 0 }, joined := none, openDue := false }) } }) ∧
  (∀ (s : State) (p : Processing), s.atRest → s.las.processing = some p → p.lnc = true → p.spd = true → p.sti = true →
    s.ict.state ≠ .faulted → (∀ id < 64, (s.track id).state = .open → (s.track id).wrongWords = []) →
    let sl := s.las.slot p.slot
    let begun : State := { s with
      trk := { s.trk with
        inspected := s.trk.inspected.mapIdx (fun i n =>
          if sl.outcomes.any (fun o => o.lane == i && o.result == .inspected) then n + 1 else n)
        slots := s.trk.slots.map (fun t => { t with matchSpan := t.lastSpan, joined := none, openDue := false }) } }
    let found := (sl.runs.map Finding.run ++ sl.alerts.map Finding.alert).foldl (takeFinding sl) begun
    let stored :=
      ((List.range 64).filter (fun id => (found.track id).state = .open)).foldl (fun u id => storeRow sl id u) found
    let closed := (List.range 64).foldl (endTrack sl) stored
    (s.lnk.inProgress = none → closed.ict.state = .faulted → exec .trkStage s = .next closed.sends) ∧
    (closed.ict.state ≠ .faulted →
      let reports := (List.range 16).filterMap (fun i => (lane closed i).ended.map (fun e =>
        let length := e.endLine + 1 - e.patch.start
        let least := ((lane closed i).settings.map (·.lengthMin)).getD 0
        let most := ((lane closed i).settings.map (·.lengthMax)).getD 0
        Report.patch i (lane closed i).patchNumber e.patch.start e.endLine length e.patch.spots e.patch.voids
          (decide (0 < least ∧ length < least)) (decide (0 < most ∧ most < length)) e.patch.flags))
      let posted := reports.foldl State.withReport { closed with
        lnc := closed.lnc.mapIdx (fun i l => if i < 16 then { l with ended := none } else l)
        trk := { closed.trk with
          slots := closed.trk.slots.map (fun t =>
            { t with matchSpan := { lo := 0, hi := 0 }, joined := none, openDue := false }) } }
      let ended : State := { posted with
        las := { posted.las with slots := posted.las.slots.set p.slot Slot.blank, processing := none }
        rpq := { posted.rpq with
          priority := List.zipWith (fun p n => n.getD p) posted.rpq.priority posted.rpq.pendingPriority
          pendingPriority := posted.rpq.pendingPriority.map (fun _ => none) } }
      let atLimit : Prop := sl.kind = .run ∧ sl.number = 1099511627775 ∧ closed.ict.limitPending = true
      (reports = [] ∨ (closed.rpq.queue.length + reports.length ≤ 128 ∧ 0 < closed.rpq.priorityOf .patch)) →
      (closed.ict.state = .running → ¬atLimit → exec .trkStage s = .next ended.sends) ∧
      (closed.ict.state = .running → atLimit → s.lnk.inProgress = none → ended.room .state →
        let u := State.withReport
          { ended with ict := { ended.ict with state := .stopping, lastStop := .lineLimit, limitPending := false } }
          (.state .stopping .lineLimit)
        u.stopRuns → exec .trkStage s = .next u.stopped.sends) ∧
      (closed.ict.state = .stopping → ended.stopRuns →
        (s.lnk.inProgress = none → exec .trkStage s = .next ended.stopped.sends) ∧
        (∀ tag, s.lnk.inProgress = some { tag := tag, reply := none } → s.lnk.requests = [] → s.lnk.replies.length < 4 →
          exec .trkStage s =
            .next (State.withReply
              { ended.stopped with lnk := { s.lnk with inProgress := none } } tag
              (.done (.stop .stopped ended.ict.lastStop))).sends)))) ∧
  ∀ (s : State) (sl : Slot) (id : Nat) (o : LaneOutcome), s.ict.state ≠ .faulted → (s.track id).state = .open →
    (s.track id).wrongWords = [] → sl.outcomes.find? (fun o => o.lane = (s.track id).lane) = some o →
    let t := s.track id
    let unreferenced : Bool := sl.integrated.any (fun r => r.lane == t.lane && r.mu.isNone)
    let continued : Track :=
      match t.joined with
      | some span =>
        { t with
          lastLine := sl.number, lastSpan := span, gap := 0, first := t.first && t.firstLine == sl.number
          inspected := min (s.trk.inspected.getD t.lane 0 + 1 - t.laneCountAtFirst) 1099511627775 }
      | none =>
        if o.result = .inspected ∧ ¬(t.kind = .streak ∧ t.origin ≠ .run ∧ unreferenced = true) then
          { t with gap := t.gap + 1 }
        else t
    let pending : Bool := t.interruptPending ||
      (decide (t.firstLine < sl.number) && (o.result == .suppressed || decide (0 < o.droppedBefore)))
    let crossed : Bool := t.kind == .streak && t.joined.isSome && o.patchNumber != t.patchLast
    let m : Track := { continued with
      interruptPending := pending && o.result != .inspected
      flags := { t.flags with
        interrupted := t.flags.interrupted || (pending && o.result == .inspected)
        degraded := t.flags.degraded || (sl.degraded && t.joined.isSome) }
      patchesCrossed := if crossed then min (t.patchesCrossed + 1) 65535 else t.patchesCrossed
      patchLast := if crossed then o.patchNumber else t.patchLast }
    let promoted : Bool := t.kind == .spot && t.joined.isSome && decide (0 < s.trk.promote) &&
      decide (s.trk.promote ≤ m.inspected) && decide (t.columns.hi + 1 - t.columns.lo ≤ s.trk.streakMaxWidth)
    let laneChanged : Prop := o.result = .laneChanged
    let patchEnd : Prop := o.patchEnd = true ∧ t.kind = .spot
    let tooLong : Prop := t.kind = .spot ∧ t.joined ≠ none ∧ promoted = false ∧ s.trk.spotMax ≤ m.inspected
    let tooFar : Prop := (if t.kind = .spot then s.trk.spotGap else s.trk.streakGap) < m.gap
    let opens : Prop := promoted = true ∨ t.openDue = true ∨
      (t.kind = .streak ∧ t.tentative = true ∧ t.joined ≠ none ∧ s.trk.streakMin ≤ m.inspected)
    let progresses : Prop := t.kind = .streak ∧ t.tentative = false ∧ t.joined ≠ none ∧ 0 < s.trk.progress ∧
      s.trk.progress ≤ m.inspected - t.progressBase
    let kept (n : Track) : State := { s with trk := { s.trk with slots := s.trk.slots.set id n } }
    (laneChanged → endTrack sl s id = closeTrack id m .laneChanged s) ∧
    (¬laneChanged → patchEnd → endTrack sl s id = closeTrack id m .patchEnd s) ∧
    (¬laneChanged → ¬patchEnd → tooLong →
      endTrack sl s id = closeTrack id { m with flags := { m.flags with large := true } } .sizeLimit s) ∧
    (¬laneChanged → ¬patchEnd → ¬tooLong → tooFar → endTrack sl s id = closeTrack id m .gapExceeded s) ∧
    (¬laneChanged → ¬patchEnd → ¬tooLong → ¬tooFar →
      (opens → s.room .streakOpen →
        let n : Track := { m with
          kind := .streak, origin := if promoted then .run else m.origin, tentative := false, progressBase := m.inspected }
        endTrack sl s id = (kept n).withReport
          (.streakOpen id n.lane n.polarity n.origin n.firstLine n.columns n.peakDeviation n.peakAccumulator)) ∧
      (¬opens → progresses → s.room .streakProgress →
        endTrack sl s id = (kept { m with progressBase := m.inspected }).withReport
          (.streakProgress id m.lastLine m.columns m.inspected m.patchesCrossed)) ∧
      (¬opens → ¬progresses → endTrack sl s id = kept m))

/-- R107, R110, R112, R113: a finding that no track matches opens one in the slot at the head of the free list, or fails with
TABLE_FULL, and a run of at least the minimum area is then reported UNTRACKED; a finding that matches one track joins it. R111: a
finding that matches several joins the oldest of them, into which the others have been folded, their slots freed. That the others are
freed in ascending id order is the model's choice (log 10). -/
def Obligations.FindingTaken : Prop :=
  ∀ (s : State) (sl : Slot) (f : Finding), s.ict.state ≠ .faulted →
    let matched (id : Nat) : Prop := id < 64 ∧ (s.track id).state = .open ∧ (s.track id).lane = f.lane ∧
      (s.track id).polarity = f.polarity ∧ f.span.lo ≤ (s.track id).matchSpan.hi + 1 ∧
      (s.track id).matchSpan.lo ≤ f.span.hi + 1 ∧
      match f with
      | .run _ => (s.track id).kind = .spot ∨ (s.track id).origin ≠ .integrator
      | .alert _ => (s.track id).kind = .streak
    (∀ id rest, (∀ n, ¬matched n) → s.trk.freeList = id :: rest →
      takeFinding sl s f =
        { s with
          trk := { s.trk with
            freeList := rest
            slots := s.trk.slots.set id
              { Track.blank with
                state := .open, first := true, lane := f.lane, polarity := f.polarity
                patchNumber := sl.patchOf f.lane, patchLast := sl.patchOf f.lane, firstLine := sl.number
                lastLine := sl.number, inspected := 1, columns := f.span, lastSpan := f.span, matchSpan := f.span
                joined := some f.span, patchesCrossed := 1, laneCountAtFirst := s.trk.inspected.getD f.lane 0
                flags := { TrackFlags.none with degraded := sl.degraded }
                kind := match f with
                  | .run _ => .spot
                  | .alert _ => .streak
                origin := match f with
                  | .run _ => .run
                  | .alert _ => .integrator
                area := match f with
                  | .run r => r.pixels
                  | .alert _ => 0
                peakDeviation := match f with
                  | .run r => some r.peak
                  | .alert _ => none
                peakAccumulator := match f with
                  | .run _ => none
                  | .alert a => some a.peak
                tentative := match f with
                  | .run _ => false
                  | .alert _ => true
                clip := { Clip.blank with
                  valid := match f with
                    | .run _ => s.trk.keepSpot
                    | .alert _ => s.trk.keepStreak } } } }) ∧
    (∀ id, matched id → (∀ n, matched n → n = id) →
      let t := s.track id
      takeFinding sl s f =
        { s with
          trk := { s.trk with
            slots := s.trk.slots.set id
              { t with
                columns := { lo := min t.columns.lo f.span.lo, hi := max t.columns.hi f.span.hi }
                matchSpan := { lo := min t.matchSpan.lo f.span.lo, hi := max t.matchSpan.hi f.span.hi }
                joined := some (match t.joined with
                  | none => f.span
                  | some j => { lo := min j.lo f.span.lo, hi := max j.hi f.span.hi })
                area := match f with
                  | .run r => min (t.area + r.pixels) 4294967295
                  | .alert _ => t.area
                peakDeviation := match f, t.peakDeviation with
                  | .run r, some d => some (max d r.peak)
                  | .run r, none => some r.peak
                  | .alert _, d => d
                peakAccumulator := match f, t.peakAccumulator with
                  | .alert a, some d => some (max d a.peak)
                  | .alert a, none => some a.peak
                  | .run _, d => d
                origin := match f, t.origin with
                  | .alert _, .run => .both
                  | _, o => o } } }) ∧
    ((∀ n, ¬matched n) → s.trk.freeList = [] → s.takes .tableFull →
      (∀ r, f = .run r → r.pixels < s.trk.minArea) →
      takeFinding sl s f =
        State.withOccurrence { s with trk := { s.trk with failures := min (s.trk.failures + 1) 65535 } } .tableFull
          (some f.lane) none) ∧
    (∀ r, f = .run r → (∀ n, ¬matched n) → s.trk.freeList = [] → s.takes .tableFull → s.trk.minArea ≤ r.pixels →
      let patchNumber := ((sl.outcomes.find? (fun o => o.lane = r.lane)).map (·.patchNumber)).getD 0
      let u := State.withOccurrence
        { s with
          trk := { s.trk with
            failures := min (s.trk.failures + 1) 65535, untracked := min (s.trk.untracked + 1) 65535 } }
        .tableFull (some r.lane) none
      let l := lane s r.lane
      let up (p : Patch) : Patch := { p with spots := min (p.spots + 1) 65535 }
      let counted : State :=
        if l.patchNumber = patchNumber then
          { u with
            lnc := s.lnc.set r.lane
              { l with patch := l.patch.map up, ended := l.ended.map (fun e => { e with patch := up e.patch }) } }
        else u
      u.room .spot →
      takeFinding sl s f = counted.withReport
        (.spot
          { id := none, lane := r.lane, polarity := r.polarity, patchNumber := patchNumber, firstLine := sl.number
            lastLine := sl.number, columns := { lo := r.first, hi := r.last }, area := r.pixels, peakDeviation := r.peak
            inspected := 1, cause := none, flags := { TrackFlags.none with degraded := sl.degraded }, untracked := true
            clipFlags := ClipFlags.none, clipHeld := false })) ∧
    (∀ (v : Nat) (absorbed : List Nat), matched v → absorbed ≠ [] → absorbed.Pairwise (· < ·) →
      (∀ n, n ∈ absorbed ↔ matched n ∧ n ≠ v) →
      (∀ n ∈ absorbed, (s.track v).firstLine < (s.track n).firstLine ∨
        ((s.track v).firstLine = (s.track n).firstLine ∧ v < n)) →
      let unite (a b : Span) : Span := { lo := min a.lo b.lo, hi := max a.hi b.hi }
      let uniteJoined (a b : Option Span) : Option Span :=
        match a, b with
        | some x, some y => some (unite x y)
        | x, none => x
        | none, y => y
      let greater (a b : Option Nat) : Option Nat :=
        match a, b with
        | some x, some y => some (max x y)
        | x, none => x
        | none, y => y
      let fold (t a : Track) : Track :=
        let streak : Bool := t.kind == .streak || a.kind == .streak
        let tentative := t.tentative && a.tentative
        { t with
          area := min (t.area + a.area) 4294967295, columns := unite t.columns a.columns
          matchSpan := unite t.matchSpan a.matchSpan, joined := uniteJoined t.joined a.joined
          peakDeviation := greater t.peakDeviation a.peakDeviation
          peakAccumulator := greater t.peakAccumulator a.peakAccumulator
          flags :=
            { merged := true, interrupted := t.flags.interrupted || a.flags.interrupted
              degraded := t.flags.degraded || a.flags.degraded, large := t.flags.large || a.flags.large }
          interruptPending := t.interruptPending || a.interruptPending
          origin := if t.origin = a.origin then t.origin else .both
          kind := if streak then .streak else .spot, tentative := tentative
          patchesCrossed := max t.patchesCrossed a.patchesCrossed
          openDue := t.openDue || (!(t.kind == .streak && !t.tentative) && streak && !tentative) }
      let w := absorbed.foldl (fun t n => fold t (s.track n)) (s.track v)
      let joins : Track := { w with
        columns := unite w.columns f.span, matchSpan := unite w.matchSpan f.span
        joined := uniteJoined w.joined (some f.span)
        area := match f with
          | .run r => min (w.area + r.pixels) 4294967295
          | .alert _ => w.area
        peakDeviation := match f with
          | .run r => greater w.peakDeviation (some r.peak)
          | .alert _ => w.peakDeviation
        peakAccumulator := match f with
          | .run _ => w.peakAccumulator
          | .alert a => greater w.peakAccumulator (some a.peak)
        origin := match f, w.origin with
          | .alert _, .run => .both
          | _, o => o }
      takeFinding sl s f =
        { s with
          trk := { s.trk with
            freeList := s.trk.freeList ++ absorbed
            slots := (absorbed.foldl (fun l n => l.set n Track.blank) s.trk.slots).set v joins }
          cls := { s.cls with pool := s.cls.pool ++ absorbed.flatMap (fun n => (s.track n).clip.blocks) } })

/-- R119, R106, R132, R72: a track that closes silently is freed; any other takes the next close serial and posts its report, and its slot
becomes HELD under KEEP and FREE under OFF. That the clip half of a HELD record is no longer valid is the model's choice (log 17).
R133 to R135: what the clip store writes for a continued track, and where: the row follows the last one through the blocks of the clip,
taking the block at the pool's head when it needs one more, or the clip is truncated or starved. -/
def Obligations.TrackCloses : Prop :=
  (∀ (s : State) (id : Nat) (t : Track) (cause : CloseCause), id < s.trk.slots.length →
    let serial := if s.trk.serial = 4294967295 then 0 else s.trk.serial + 1
    let freed (trk : Trk) : State :=
      { s with
        trk := { trk with slots := s.trk.slots.set id Track.blank, freeList := s.trk.freeList ++ [id] }
        cls := { s.cls with pool := s.cls.pool ++ t.clip.blocks } }
    let kept : State :=
      { s with
        trk := { s.trk with
          serial := serial
          slots := s.trk.slots.set id
            { t with
              state := .held, cause := some cause, serial := serial, interruptPending := false, joined := none
              openDue := false, matchSpan := { lo := 0, hi := 0 }, clip := { t.clip with valid := false } } } }
    let closed (r : Report) (s : State) : State :=
      { s with
        rpq := { s.rpq with
          entries := s.rpq.entries + 1
          queue := s.rpq.queue ++
            [{ report := r, priority := s.rpq.priorityOf r.kind, entry := s.rpq.entries + 1
               close := some { id := id, serial := serial } }] } }
    ((t.kind = .spot ∧ t.area < s.trk.minArea) ∨ (t.kind = .streak ∧ t.tentative = true) →
      closeTrack id t cause s = freed s.trk) ∧
    (t.kind = .streak → t.tentative = false → s.room .streakClose →
      let report (held : Bool) : Report := .streakClose
        { id := id, lane := t.lane, polarity := t.polarity, origin := t.origin, firstLine := t.firstLine
          lastLine := t.lastLine, columns := t.columns, peakDeviation := t.peakDeviation
          peakAccumulator := t.peakAccumulator, inspected := t.inspected, patchesCrossed := t.patchesCrossed
          cause := cause, flags := t.flags, clipFlags := t.clip.flags, clipHeld := held }
      (s.trk.keepStreak = true → closeTrack id t cause s = closed (report (decide (0 < t.clip.rows))) kept) ∧
      (s.trk.keepStreak = false →
        closeTrack id t cause s = closed (report false) (freed { s.trk with serial := serial }))) ∧
    (t.kind = .spot → s.trk.minArea ≤ t.area → s.room .spot →
      let report (held : Bool) : Report := .spot
        { id := some id, lane := t.lane, polarity := t.polarity, patchNumber := t.patchNumber, firstLine := t.firstLine
          lastLine := t.lastLine, columns := t.columns, area := t.area, peakDeviation := t.peakDeviation.getD 0
          inspected := t.inspected, cause := some cause, flags := t.flags, untracked := false
          clipFlags := t.clip.flags, clipHeld := held }
      let l := lane s t.lane
      let up (p : Patch) : Patch := { p with spots := min (p.spots + 1) 65535 }
      let counted (u : State) : State :=
        if l.patchNumber = t.patchNumber then
          { u with
            lnc := s.lnc.set t.lane
              { l with patch := l.patch.map up, ended := l.ended.map (fun e => { e with patch := up e.patch }) } }
        else u
      (s.trk.keepSpot = true → closeTrack id t cause s = closed (report (decide (0 < t.clip.rows))) (counted kept)) ∧
      (s.trk.keepSpot = false →
        closeTrack id t cause s = closed (report false) (counted (freed { s.trk with serial := serial }))))) ∧
  ∀ (s : State) (sl : Slot) (id : Nat), id < s.trk.slots.length → Sparse.wf clipDefault s.cls.words = true →
    let t := s.track id
    let clip := t.clip
    (t.joined = none ∨ (lane s t.lane).settings = none ∨ clip.valid = false ∨ clip.rows = s.cls.maximum →
      storeRow sl id s = s) ∧
    ∀ (span : Span) (c : LaneSettings), t.joined = some span → (lane s t.lane).settings = some c → clip.valid = true →
      clip.rows ≠ s.cls.maximum →
      let lo := max c.first (span.lo - s.cls.margin)
      let hi := min c.last (span.hi + s.cls.margin)
      let width := min (hi + 1 - lo) 64
      let flags := { clip.flags with wide := clip.flags.wide || decide (64 < hi + 1 - lo) }
      let row : List (Option Nat) := [some sl.number, some lo, some width] ++
        (List.range width).map (fun i => match sl.pixels[lo + i]? with
          | some (.level v) => some v
          | some .saturated => some 1023
          | _ => none)
      let room := if clip.blocks = [] then 0 else 128 - clip.wordsUsed
      let used := (clip.blocks.length - 1) * 128 + clip.wordsUsed
      let written (blocks : List Nat) (wordsUsed : Nat) (pool : List Nat) : Prop :=
        ∃ words,
          storeRow sl id s =
            { s with
              cls := { s.cls with words := words, pool := pool }
              trk := { s.trk with
                slots := s.trk.slots.set id
                  { t with
                    clip := { clip with
                      first := true, blocks := blocks, wordsUsed := wordsUsed, rows := clip.rows + 1, flags := flags } } } } ∧
          let address (k : Nat) : Nat := blocks.getD ((used + k) / 128) 0 * 128 + (used + k) % 128
          (∀ k v, row[k]? = some v → Sparse.get clipDefault words (address k) = { val := v, health := .good }) ∧
          ∀ a, (∀ k < row.length, a ≠ address k) → Sparse.get clipDefault words a = Sparse.get clipDefault s.cls.words a
      let stopped (cls : Cls) (flags : ClipFlags) : State :=
        { s with
          cls := cls
          trk := { s.trk with slots := s.trk.slots.set id { t with clip := { clip with valid := false, flags := flags } } } }
      (row.length ≤ room → written clip.blocks (clip.wordsUsed + row.length) s.cls.pool) ∧
      (room < row.length → 32 ≤ clip.blocks.length →
        storeRow sl id s =
          stopped { s.cls with truncated := min (s.cls.truncated + 1) 65535 } { flags with truncated := true }) ∧
      (room < row.length → clip.blocks.length < 32 → s.cls.pool = [] →
        storeRow sl id s =
          stopped { s.cls with starved := min (s.cls.starved + 1) 65535 } { flags with starved := true }) ∧
      (∀ b rest, room < row.length → clip.blocks.length < 32 → s.cls.pool = b :: rest →
        written (clip.blocks ++ [b]) (row.length - room) rest)

/-- R122, R124, R125, R126: RELEASE_TRACK frees a HELD slot; READ_TRACK and LIST_TRACKS show the table and change nothing; a request whose
reading finds an uncorrectable word is refused with FAULTED after MEMORY_FATAL. A word with one wrong bit is used corrected and written
back, with one MEMORY_CORRECTED. When the words are read is the model's choice (log 9), and that a release of a slot that is not HELD reads
them too, R122 and R162 having such a refusal change nothing (log 45). -/
def Obligations.TracksRead : Prop :=
  ∀ (s : State) (tag : Byte) (id : Nat), s.listening → s.ict.state ≠ .faulted → id < 256 →
    let t := s.track id
    (63 < id →
      exec (rowOf .readTrack tag [id]) s = .next (s.withReply tag (.refused 0x38 .badValue 0)).sends ∧
      exec (rowOf .releaseTrack tag [id]) s = .next (s.withReply tag (.refused 0x3A .badValue 0)).sends) ∧
    (id ≤ 63 → t.wrongWords = [] →
      exec (rowOf .readTrack tag [id]) s = .next (s.withReply tag (.done (.readTrack id t))).sends ∧
      (t.state ≠ .held →
        exec (rowOf .releaseTrack tag [id]) s = .next (s.withReply tag (.refused 0x3A .notHeld 0)).sends) ∧
      (t.state = .held →
        exec (rowOf .releaseTrack tag [id]) s =
          .next (State.withReply
            { s with
              trk := { s.trk with slots := s.trk.slots.set id Track.blank, freeList := s.trk.freeList ++ [id] }
              cls := { s.cls with pool := s.cls.pool ++ t.clip.blocks } }
            tag (.done (.releaseTrack id (s.trk.freeList.length + 1)))).sends)) ∧
    (id ≤ 63 → t.wrongWords = [.single] → s.takes .memoryCorrected →
      let n : Track := { t with wrongWords := [] }
      let u := State.withOccurrence { s with trk := { s.trk with slots := s.trk.slots.set id n } } .memoryCorrected none none
      exec (rowOf .readTrack tag [id]) s = .next (u.withReply tag (.done (.readTrack id n))).sends ∧
      (t.state ≠ .held →
        exec (rowOf .releaseTrack tag [id]) s = .next (u.withReply tag (.refused 0x3A .notHeld 0)).sends) ∧
      (t.state = .held →
        exec (rowOf .releaseTrack tag [id]) s =
          .next (State.withReply
            { u with
              trk := { s.trk with slots := s.trk.slots.set id Track.blank, freeList := s.trk.freeList ++ [id] }
              cls := { s.cls with pool := s.cls.pool ++ t.clip.blocks } }
            tag (.done (.releaseTrack id (s.trk.freeList.length + 1)))).sends) ∧
      ((∀ i < 64, i ≠ id → (s.track i).wrongWords = []) →
        exec (.listTracks tag []) s =
          .next (u.withReply tag (.done (.listTracks s.trk.freeList.length
            (((List.range 64).filter (fun i => (s.track i).state ≠ .free)).map (fun i => (i, (s.track i).state)))))).sends)) ∧
    (∀ rest, id ≤ 63 → t.wrongWords = .double :: rest →
      exec (rowOf .readTrack tag [id]) s = .next (State.withReply (memoryFatal s) tag (.refused 0x38 .faulted 0)).sends ∧
      exec (rowOf .releaseTrack tag [id]) s = .next (State.withReply (memoryFatal s) tag (.refused 0x3A .faulted 0)).sends) ∧
    ((∀ i < 64, (s.track i).wrongWords = []) →
      exec (.listTracks tag []) s =
        .next (s.withReply tag (.done (.listTracks s.trk.freeList.length
          (((List.range 64).filter (fun i => (s.track i).state ≠ .free)).map (fun i => (i, (s.track i).state)))))).sends)

/-- R130, R131: SET_CLIPS takes its four settings together, or is refused and changes nothing. -/
def Obligations.SetClips : Prop :=
  ∀ (s : State) (tag : Byte), s.listening →
    refusedAsStated .setClips
      (fun f => [decide (f.getD 0 0 ≤ 1), decide (f.getD 1 0 ≤ 1), decide (f.getD 2 0 ≤ 8),
        decide (1 ≤ f.getD 3 0 ∧ f.getD 3 0 ≤ 1024)]) s tag ∧
    ∀ (keepSpot keepStreak : Bool) (margin most : Nat), s.ict.state = .stopped → margin ≤ 8 → 1 ≤ most → most ≤ 1024 →
      exec (rowOf .setClips tag [if keepSpot then 1 else 0, if keepStreak then 1 else 0, margin, most]) s =
        .next (State.withReply
          { s with
            trk := { s.trk with keepSpot := keepSpot, keepStreak := keepStreak }
            cls := { s.cls with margin := margin, maximum := most } }
          tag (.done (.setClips keepSpot keepStreak margin most))).sends

/-- R137, R139: READ_CLIP refuses a FREE slot and fields out of range, returns no row at or beyond the rows stored, and otherwise the rows
asked for, as they are stored: the first row stands at offset 0 of the clip, and each later one 3 + width words after the row before
it. R136: an uncorrectable word makes its row damaged, and in a width word it loses the places of every later row; CLIP_DAMAGED then
joins the flags, and is among those of the reply (the model's choice, log 29). A word with one wrong bit that the read meets is used
corrected and written back, with one MEMORY_CORRECTED. Which words a read meets is in part the model's choice (log 34): none when the
first row asked for lies beyond the rows stored, the width words of the rows before it, and every word of the rows returned. -/
def Obligations.ReadClip : Prop :=
  ∀ (s : State) (tag : Byte) (id first count : Nat), s.listening → s.ict.state ≠ .faulted → id < 256 → first < 65536 →
    count < 256 →
    let request := rowOf .readClip tag [id, first, count]
    let t := s.track id
    let word (offset : Nat) : Checked (Option Nat) :=
      Sparse.get clipDefault s.cls.words (t.clip.blocks.getD (offset / 128) 0 * 128 + offset % 128)
    let answer (flags : ClipFlags) (rows : List ClipRow) : ReplyBody :=
      .done (.readClip id t.state t.clip.valid t.clip.rows t.clip.blocks.length flags first rows)
    (∀ i, firstBad [decide (id ≤ 63), decide (first ≤ 1023), decide (1 ≤ count ∧ count ≤ 7)] i →
      exec request s = .next (s.withReply tag (.refused 0x39 .badValue i)).sends) ∧
    (id ≤ 63 → first ≤ 1023 → 1 ≤ count → count ≤ 7 →
      (t.state = .free → exec request s = .next (s.withReply tag (.refused 0x39 .notHeld 0)).sends) ∧
      (t.state ≠ .free → t.clip.rows ≤ first → exec request s = .next (s.withReply tag (answer t.clip.flags [])).sends) ∧
      (∀ place : Nat → Option Nat, t.state ≠ .free → first < t.clip.rows → place 0 = some 0 →
        (∀ k, place (k + 1) = (place k).bind (fun o =>
          if (word (o + 2)).health = .double then none else some (o + 3 + (word (o + 2)).val.getD 0))) →
        let read (offset : Nat) : Option Nat := if (word offset).health = .double then none else (word offset).val
        let row (k : Nat) : ClipRow :=
          match place k with
          | none => { index := k, damaged := true, line := none, first := none, width := none, levels := [] }
          | some o =>
            if (word (o + 2)).health = .double then
              { index := k, damaged := true, line := read o, first := read (o + 1), width := none, levels := [] }
            else
              let n := (word (o + 2)).val.getD 0
              let damaged := (List.range (3 + n)).any (fun i => decide ((word (o + i)).health = .double))
              { index := k, damaged := damaged, line := read o, first := read (o + 1), width := some n
                levels := if damaged then [] else (List.range n).map (fun i => (word (o + 3 + i)).val) }
        let rows := (List.range (min count (t.clip.rows - first))).map (fun k => row (first + k))
        let flags := { t.clip.flags with damaged := t.clip.flags.damaged || rows.any (·.damaged) }
        let answered (u : State) : State :=
          State.withReply
            { u with trk := { s.trk with slots := s.trk.slots.set id { t with clip := { t.clip with flags := flags } } } }
            tag (answer flags rows)
        let address (offset : Nat) : Nat := t.clip.blocks.getD (offset / 128) 0 * 128 + offset % 128
        let met (a : Nat) : Prop := ∃ k o, place k = some o ∧
          ((k < first ∧ a = address (o + 2)) ∨
            (first ≤ k ∧ k - first < min count (t.clip.rows - first) ∧
              ∃ i, a = address (o + i) ∧
                (i < 3 ∨ ((word (o + 2)).health ≠ .double ∧ i < 3 + (word (o + 2)).val.getD 0))))
        ((∀ offset, (word offset).health ≠ .single) → exec request s = .next (answered s).sends) ∧
        (∀ k, s.memoryWf = true → (word k).health = .single →
          (∀ offset, address offset ≠ address k → (word offset).health ≠ .single) → s.takes .memoryCorrected →
          (¬met (address k) → exec request s = .next (answered s).sends) ∧
          (met (address k) → ∃ words,
            (∀ a, Sparse.get clipDefault words a =
              if a = address k then { val := (word k).val, health := .good } else Sparse.get clipDefault s.cls.words a) ∧
            exec request s =
              .next (answered
                (State.withOccurrence { s with cls := { s.cls with words := words } } .memoryCorrected none none)).sends))))

/-! ## Reports -/

/-- R144: SET_PRIORITY establishes a kind's priority at once, or as pending while a line is in processing; 0 is not taken for a kind that
cannot be turned off. -/
def Obligations.SetPriority : Prop :=
  ∀ (s : State) (tag : Byte) (code p : Nat), s.listening → s.ict.state ≠ .faulted → code < 256 → p < 256 →
    let row := rowOf .setPriority tag [code, p]
    (code < 0x80 ∨ 0x8A < code → exec row s = .next (s.withReply tag (.refused 0x30 .badValue 0)).sends) ∧
    (0x80 ≤ code → code ≤ 0x8A → 3 < p → exec row s = .next (s.withReply tag (.refused 0x30 .badValue 1)).sends) ∧
    (∀ kind : ReportKind, code = 0x80 + kind.index → p ≤ 3 → s.rpq.priority.length = 11 →
      s.rpq.pendingPriority.length = 11 →
      let fixed : Prop := kind = .fault ∨ kind = .queueLoss ∨ kind = .state
      (p = 0 → fixed →
        exec row s = .next (s.withReply tag (.done (.setPriority kind (s.rpq.priority.getD kind.index 0)
          (s.rpq.pendingPriority.getD kind.index none)))).sends) ∧
      (0 < p ∨ ¬fixed → s.las.processing = none →
        exec row s =
          .next (State.withReply
            { s with
              rpq := { s.rpq with
                priority := s.rpq.priority.set kind.index p
                pendingPriority := s.rpq.pendingPriority.set kind.index none } }
            tag (.done (.setPriority kind p none))).sends) ∧
      (0 < p ∨ ¬fixed → s.las.processing ≠ none →
        exec row s =
          .next (State.withReply
            { s with rpq := { s.rpq with pendingPriority := s.rpq.pendingPriority.set kind.index (some p) } }
            tag (.done (.setPriority kind (s.rpq.priority.getD kind.index 0) (some p)))).sends))

/-- R152, R153: SET_ATTENTION sets both values together, and its reply says whether ATTN is asserted after it. -/
def Obligations.SetAttention : Prop :=
  ∀ (s : State) (tag : Byte) (watermark attention : Nat), s.listening → watermark < 256 → attention < 256 →
    let row := rowOf .setAttention tag [watermark, attention]
    (s.ict.state = .faulted → exec row s = .next (s.withReply tag (.refused 0x32 .faulted 0)).sends) ∧
    (s.ict.state ≠ .faulted → ¬(1 ≤ watermark ∧ watermark ≤ 128) →
      exec row s = .next (s.withReply tag (.refused 0x32 .badValue 0)).sends) ∧
    (s.ict.state ≠ .faulted → 1 ≤ watermark → watermark ≤ 128 → ¬(1 ≤ attention ∧ attention ≤ 3) →
      exec row s = .next (s.withReply tag (.refused 0x32 .badValue 1)).sends) ∧
    (s.ict.state ≠ .faulted → 1 ≤ watermark → watermark ≤ 128 → 1 ≤ attention → attention ≤ 3 →
      let t : State := { s with rpq := { s.rpq with watermark := watermark, attention := attention } }
      exec row s = .next (t.withReply tag (.done (.setAttention watermark attention t.attn))).sends ∧
      (t.attn = true ↔
        watermark ≤ s.rpq.queue.length ∨ (∃ r ∈ s.rpq.queue, attention ≤ r.priority) ∨ s.ict.state = .faulted))

/-! ## Invariants -/

/-- Every step keeps the canonical form of the memories, the capacities of the queues, the partitions of ids and blocks (R106, R132), and
the ranges of the settings. -/
def Obligations.StepKeepsInvariant : Prop := ∀ s t : State, s.Inv → step s = .next t → t.Inv

/-- Every step keeps that outside RUNNING and STOPPING no line is in processing and no track is OPEN (R121). -/
def Obligations.StepKeepsQuiet : Prop := ∀ s t : State, s.Inv → s.quiet → step s = .next t → t.quiet

/-- The invariants hold after a power-on reset. -/
def Obligations.ResetInvariant : Prop := State.reset.Inv ∧ State.reset.quiet
end

