-- ==== Sys2Proof/Laws/Sparse.lean ====
section
/-! SUPPORT. Sparse memories: a read after a write, and that a write keeps the canonical form. -/

namespace Sys2Proof.Machine

variable {α : Type} [DecidableEq α]

/-- A read of the address just written gives the value written. -/
@[simp] theorem Sparse.get_set_same (d : α) (m : Sparse α) (a : Nat) (v : α) (lo : Nat)
    (h : Sparse.wfFrom d lo m = true) : Sparse.get d (Sparse.set d m a v) a = v := by
  induction m generalizing lo with
  | nil => simp only [Sparse.set]; split <;> simp_all [Sparse.get]
  | cons e rest ih =>
    obtain ⟨k, w⟩ := e
    simp only [Sparse.wfFrom, Bool.and_eq_true, decide_eq_true_eq] at h
    simp only [Sparse.set]
    split
    · subst a
      split
      · subst v
        cases rest with
        | nil => rfl
        | cons e2 rest2 =>
          simp only [Sparse.wfFrom, Bool.and_eq_true, decide_eq_true_eq] at h
          simp only [Sparse.get]
          rw [if_neg (by omega), if_pos (by omega)]
      · simp [Sparse.get]
    · split
      · split
        · simp only [Sparse.get]; rw [if_neg (by omega), if_pos (by omega)]; simp_all
        · simp [Sparse.get]
      · simp only [Sparse.get]
        rw [if_neg (by omega), if_neg (by omega)]
        exact ih _ h.2

/-- A write leaves every other address as it was. -/
theorem Sparse.get_set_other (d : α) (m : Sparse α) (a b : Nat) (v : α) (lo : Nat)
    (h : Sparse.wfFrom d lo m = true) (ne : b ≠ a) : Sparse.get d (Sparse.set d m a v) b = Sparse.get d m b := by
  induction m generalizing lo with
  | nil =>
    simp only [Sparse.set]
    split
    · rfl
    · simp only [Sparse.get]; rw [if_neg (by omega)]; split <;> rfl
  | cons e rest ih =>
    obtain ⟨k, w⟩ := e
    simp only [Sparse.wfFrom, Bool.and_eq_true, decide_eq_true_eq] at h
    simp only [Sparse.set]
    split
    · subst a
      split
      · simp only [Sparse.get]
        rw [if_neg (by omega)]
        split
        · cases rest with
          | nil => rfl
          | cons e2 rest2 =>
            simp only [Sparse.wfFrom, Bool.and_eq_true, decide_eq_true_eq] at h
            simp only [Sparse.get]
            rw [if_neg (by omega), if_pos (by omega)]
        · rfl
      · simp only [Sparse.get, show ¬k = b by omega, if_false]
    · split
      · split
        · rfl
        · rw [Sparse.get, if_neg (by omega)]
          split
          · simp only [Sparse.get]; rw [if_neg (by omega), if_pos (by omega)]
          · rfl
      · simp only [Sparse.get]
        rw [ih _ h.2]

/-- A write keeps the canonical form. -/
theorem Sparse.wfFrom_set (d : α) (m : Sparse α) (a : Nat) (v : α) (lo : Nat) (h : Sparse.wfFrom d lo m = true)
    (ha : lo ≤ a) : Sparse.wfFrom d lo (Sparse.set d m a v) = true := by
  induction m generalizing lo with
  | nil => simp only [Sparse.set]; split <;> simp_all [Sparse.wfFrom]
  | cons e rest ih =>
    obtain ⟨k, w⟩ := e
    simp only [Sparse.wfFrom, Bool.and_eq_true, decide_eq_true_eq] at h
    obtain ⟨⟨hlo, hw⟩, hrest⟩ := h
    simp only [Sparse.set]
    split
    · subst a
      split
      · cases rest with
        | nil => rfl
        | cons e2 rest2 =>
          simp only [Sparse.wfFrom, Bool.and_eq_true, decide_eq_true_eq] at hrest ⊢
          exact ⟨⟨by omega, hrest.1.2⟩, hrest.2⟩
      · simp_all [Sparse.wfFrom]
    · split
      · split
        · simp_all [Sparse.wfFrom]
        · simp only [Sparse.wfFrom, Bool.and_eq_true, decide_eq_true_eq]
          exact ⟨⟨ha, by assumption⟩, ⟨by omega, hw⟩, hrest⟩
      · simp only [Sparse.wfFrom, Bool.and_eq_true, decide_eq_true_eq]
        exact ⟨⟨hlo, hw⟩, ih _ hrest (by omega)⟩

/-- A write keeps the canonical form of a memory. -/
@[simp] theorem Sparse.wf_set (d : α) (m : Sparse α) (a : Nat) (v : α) (h : Sparse.wf d m = true) :
    Sparse.wf d (Sparse.set d m a v) = true := Sparse.wfFrom_set d m a v 0 h (Nat.zero_le _)

@[simp] theorem Sparse.wf_nil (d : α) : Sparse.wf d ([] : Sparse α) = true := rfl

/-- The memories of the part after a power-on reset are in canonical form. -/
theorem reset_memoryWf : State.reset.memoryWf = true := by decide

end Sys2Proof.Machine
end

