-- ==== Sys2Proof/Laws/State.lean ====
section
/-! SUPPORT. What each named update of the state leaves alone, field by field, and what it writes. -/

namespace Sys2Proof.Machine

variable (s : State)

/-! ### setHead -/

@[simp] theorem State.setHead_now (h : Nat) (x : Head) : (s.setHead h x).now = s.now := rfl
@[simp] theorem State.setHead_hold (h : Nat) (x : Head) : (s.setHead h x).hold = s.hold := rfl
@[simp] theorem State.setHead_pins (h : Nat) (x : Head) : (s.setHead h x).pins = s.pins := rfl
@[simp] theorem State.setHead_enc (h : Nat) (x : Head) : (s.setHead h x).enc = s.enc := rfl
@[simp] theorem State.setHead_ffc (h : Nat) (x : Head) : (s.setHead h x).ffc = s.ffc := rfl
@[simp] theorem State.setHead_lnc (h : Nat) (x : Head) : (s.setHead h x).lnc = s.lnc := rfl
@[simp] theorem State.setHead_spd (h : Nat) (x : Head) : (s.setHead h x).spd = s.spd := rfl
@[simp] theorem State.setHead_sti (h : Nat) (x : Head) : (s.setHead h x).sti = s.sti := rfl
@[simp] theorem State.setHead_trk (h : Nat) (x : Head) : (s.setHead h x).trk = s.trk := rfl
@[simp] theorem State.setHead_cls (h : Nat) (x : Head) : (s.setHead h x).cls = s.cls := rfl
@[simp] theorem State.setHead_rpq (h : Nat) (x : Head) : (s.setHead h x).rpq = s.rpq := rfl
@[simp] theorem State.setHead_lnk (h : Nat) (x : Head) : (s.setHead h x).lnk = s.lnk := rfl
@[simp] theorem State.setHead_ict (h : Nat) (x : Head) : (s.setHead h x).ict = s.ict := rfl
@[simp] theorem State.setHead_choices (h : Nat) (x : Head) : (s.setHead h x).choices = s.choices := rfl
@[simp] theorem State.setHead_pending (h : Nat) (x : Head) : (s.setHead h x).pending = s.pending := rfl

/-! ### setSlot -/

@[simp] theorem State.setSlot_now (i : Nat) (x : Slot) : (s.setSlot i x).now = s.now := rfl
@[simp] theorem State.setSlot_hold (i : Nat) (x : Slot) : (s.setSlot i x).hold = s.hold := rfl
@[simp] theorem State.setSlot_pins (i : Nat) (x : Slot) : (s.setSlot i x).pins = s.pins := rfl
@[simp] theorem State.setSlot_enc (i : Nat) (x : Slot) : (s.setSlot i x).enc = s.enc := rfl
@[simp] theorem State.setSlot_ffc (i : Nat) (x : Slot) : (s.setSlot i x).ffc = s.ffc := rfl
@[simp] theorem State.setSlot_lnc (i : Nat) (x : Slot) : (s.setSlot i x).lnc = s.lnc := rfl
@[simp] theorem State.setSlot_spd (i : Nat) (x : Slot) : (s.setSlot i x).spd = s.spd := rfl
@[simp] theorem State.setSlot_sti (i : Nat) (x : Slot) : (s.setSlot i x).sti = s.sti := rfl
@[simp] theorem State.setSlot_trk (i : Nat) (x : Slot) : (s.setSlot i x).trk = s.trk := rfl
@[simp] theorem State.setSlot_cls (i : Nat) (x : Slot) : (s.setSlot i x).cls = s.cls := rfl
@[simp] theorem State.setSlot_rpq (i : Nat) (x : Slot) : (s.setSlot i x).rpq = s.rpq := rfl
@[simp] theorem State.setSlot_lnk (i : Nat) (x : Slot) : (s.setSlot i x).lnk = s.lnk := rfl
@[simp] theorem State.setSlot_ict (i : Nat) (x : Slot) : (s.setSlot i x).ict = s.ict := rfl
@[simp] theorem State.setSlot_choices (i : Nat) (x : Slot) : (s.setSlot i x).choices = s.choices := rfl
@[simp] theorem State.setSlot_pending (i : Nat) (x : Slot) : (s.setSlot i x).pending = s.pending := rfl

/-! ### setLane -/

@[simp] theorem State.setLane_now (i : Nat) (x : Lane) : (s.setLane i x).now = s.now := rfl
@[simp] theorem State.setLane_hold (i : Nat) (x : Lane) : (s.setLane i x).hold = s.hold := rfl
@[simp] theorem State.setLane_pins (i : Nat) (x : Lane) : (s.setLane i x).pins = s.pins := rfl
@[simp] theorem State.setLane_enc (i : Nat) (x : Lane) : (s.setLane i x).enc = s.enc := rfl
@[simp] theorem State.setLane_las (i : Nat) (x : Lane) : (s.setLane i x).las = s.las := rfl
@[simp] theorem State.setLane_ffc (i : Nat) (x : Lane) : (s.setLane i x).ffc = s.ffc := rfl
@[simp] theorem State.setLane_spd (i : Nat) (x : Lane) : (s.setLane i x).spd = s.spd := rfl
@[simp] theorem State.setLane_sti (i : Nat) (x : Lane) : (s.setLane i x).sti = s.sti := rfl
@[simp] theorem State.setLane_trk (i : Nat) (x : Lane) : (s.setLane i x).trk = s.trk := rfl
@[simp] theorem State.setLane_cls (i : Nat) (x : Lane) : (s.setLane i x).cls = s.cls := rfl
@[simp] theorem State.setLane_rpq (i : Nat) (x : Lane) : (s.setLane i x).rpq = s.rpq := rfl
@[simp] theorem State.setLane_lnk (i : Nat) (x : Lane) : (s.setLane i x).lnk = s.lnk := rfl
@[simp] theorem State.setLane_ict (i : Nat) (x : Lane) : (s.setLane i x).ict = s.ict := rfl
@[simp] theorem State.setLane_choices (i : Nat) (x : Lane) : (s.setLane i x).choices = s.choices := rfl
@[simp] theorem State.setLane_pending (i : Nat) (x : Lane) : (s.setLane i x).pending = s.pending := rfl

/-! ### setTrack -/

@[simp] theorem State.setTrack_now (i : Nat) (x : Track) : (s.setTrack i x).now = s.now := rfl
@[simp] theorem State.setTrack_hold (i : Nat) (x : Track) : (s.setTrack i x).hold = s.hold := rfl
@[simp] theorem State.setTrack_pins (i : Nat) (x : Track) : (s.setTrack i x).pins = s.pins := rfl
@[simp] theorem State.setTrack_enc (i : Nat) (x : Track) : (s.setTrack i x).enc = s.enc := rfl
@[simp] theorem State.setTrack_las (i : Nat) (x : Track) : (s.setTrack i x).las = s.las := rfl
@[simp] theorem State.setTrack_ffc (i : Nat) (x : Track) : (s.setTrack i x).ffc = s.ffc := rfl
@[simp] theorem State.setTrack_lnc (i : Nat) (x : Track) : (s.setTrack i x).lnc = s.lnc := rfl
@[simp] theorem State.setTrack_spd (i : Nat) (x : Track) : (s.setTrack i x).spd = s.spd := rfl
@[simp] theorem State.setTrack_sti (i : Nat) (x : Track) : (s.setTrack i x).sti = s.sti := rfl
@[simp] theorem State.setTrack_cls (i : Nat) (x : Track) : (s.setTrack i x).cls = s.cls := rfl
@[simp] theorem State.setTrack_rpq (i : Nat) (x : Track) : (s.setTrack i x).rpq = s.rpq := rfl
@[simp] theorem State.setTrack_lnk (i : Nat) (x : Track) : (s.setTrack i x).lnk = s.lnk := rfl
@[simp] theorem State.setTrack_ict (i : Nat) (x : Track) : (s.setTrack i x).ict = s.ict := rfl
@[simp] theorem State.setTrack_choices (i : Nat) (x : Track) : (s.setTrack i x).choices = s.choices := rfl
@[simp] theorem State.setTrack_pending (i : Nat) (x : Track) : (s.setTrack i x).pending = s.pending := rfl

/-! ### reply -/

@[simp] theorem State.reply_now (r : Reply) : (s.reply r).now = s.now := rfl
@[simp] theorem State.reply_hold (r : Reply) : (s.reply r).hold = s.hold := rfl
@[simp] theorem State.reply_pins (r : Reply) : (s.reply r).pins = s.pins := rfl
@[simp] theorem State.reply_enc (r : Reply) : (s.reply r).enc = s.enc := rfl
@[simp] theorem State.reply_las (r : Reply) : (s.reply r).las = s.las := rfl
@[simp] theorem State.reply_ffc (r : Reply) : (s.reply r).ffc = s.ffc := rfl
@[simp] theorem State.reply_lnc (r : Reply) : (s.reply r).lnc = s.lnc := rfl
@[simp] theorem State.reply_spd (r : Reply) : (s.reply r).spd = s.spd := rfl
@[simp] theorem State.reply_sti (r : Reply) : (s.reply r).sti = s.sti := rfl
@[simp] theorem State.reply_trk (r : Reply) : (s.reply r).trk = s.trk := rfl
@[simp] theorem State.reply_cls (r : Reply) : (s.reply r).cls = s.cls := rfl
@[simp] theorem State.reply_rpq (r : Reply) : (s.reply r).rpq = s.rpq := rfl
@[simp] theorem State.reply_ict (r : Reply) : (s.reply r).ict = s.ict := rfl
@[simp] theorem State.reply_choices (r : Reply) : (s.reply r).choices = s.choices := rfl
@[simp] theorem State.reply_pending (r : Reply) : (s.reply r).pending = s.pending := rfl

/-! ### done -/

@[simp] theorem State.done_now (tag : Byte) (d : Done) : (s.done tag d).now = s.now := rfl
@[simp] theorem State.done_hold (tag : Byte) (d : Done) : (s.done tag d).hold = s.hold := rfl
@[simp] theorem State.done_pins (tag : Byte) (d : Done) : (s.done tag d).pins = s.pins := rfl
@[simp] theorem State.done_enc (tag : Byte) (d : Done) : (s.done tag d).enc = s.enc := rfl
@[simp] theorem State.done_las (tag : Byte) (d : Done) : (s.done tag d).las = s.las := rfl
@[simp] theorem State.done_ffc (tag : Byte) (d : Done) : (s.done tag d).ffc = s.ffc := rfl
@[simp] theorem State.done_lnc (tag : Byte) (d : Done) : (s.done tag d).lnc = s.lnc := rfl
@[simp] theorem State.done_spd (tag : Byte) (d : Done) : (s.done tag d).spd = s.spd := rfl
@[simp] theorem State.done_sti (tag : Byte) (d : Done) : (s.done tag d).sti = s.sti := rfl
@[simp] theorem State.done_trk (tag : Byte) (d : Done) : (s.done tag d).trk = s.trk := rfl
@[simp] theorem State.done_cls (tag : Byte) (d : Done) : (s.done tag d).cls = s.cls := rfl
@[simp] theorem State.done_rpq (tag : Byte) (d : Done) : (s.done tag d).rpq = s.rpq := rfl
@[simp] theorem State.done_ict (tag : Byte) (d : Done) : (s.done tag d).ict = s.ict := rfl
@[simp] theorem State.done_choices (tag : Byte) (d : Done) : (s.done tag d).choices = s.choices := rfl
@[simp] theorem State.done_pending (tag : Byte) (d : Done) : (s.done tag d).pending = s.pending := rfl

/-! ### refuse -/

@[simp] theorem State.refuse_now (tag k : Byte) (r : RefuseReason) (n : Nat) : (s.refuse tag k r n).now = s.now := rfl
@[simp] theorem State.refuse_hold (tag k : Byte) (r : RefuseReason) (n : Nat) : (s.refuse tag k r n).hold = s.hold := rfl
@[simp] theorem State.refuse_pins (tag k : Byte) (r : RefuseReason) (n : Nat) : (s.refuse tag k r n).pins = s.pins := rfl
@[simp] theorem State.refuse_enc (tag k : Byte) (r : RefuseReason) (n : Nat) : (s.refuse tag k r n).enc = s.enc := rfl
@[simp] theorem State.refuse_las (tag k : Byte) (r : RefuseReason) (n : Nat) : (s.refuse tag k r n).las = s.las := rfl
@[simp] theorem State.refuse_ffc (tag k : Byte) (r : RefuseReason) (n : Nat) : (s.refuse tag k r n).ffc = s.ffc := rfl
@[simp] theorem State.refuse_lnc (tag k : Byte) (r : RefuseReason) (n : Nat) : (s.refuse tag k r n).lnc = s.lnc := rfl
@[simp] theorem State.refuse_spd (tag k : Byte) (r : RefuseReason) (n : Nat) : (s.refuse tag k r n).spd = s.spd := rfl
@[simp] theorem State.refuse_sti (tag k : Byte) (r : RefuseReason) (n : Nat) : (s.refuse tag k r n).sti = s.sti := rfl
@[simp] theorem State.refuse_trk (tag k : Byte) (r : RefuseReason) (n : Nat) : (s.refuse tag k r n).trk = s.trk := rfl
@[simp] theorem State.refuse_cls (tag k : Byte) (r : RefuseReason) (n : Nat) : (s.refuse tag k r n).cls = s.cls := rfl
@[simp] theorem State.refuse_rpq (tag k : Byte) (r : RefuseReason) (n : Nat) : (s.refuse tag k r n).rpq = s.rpq := rfl
@[simp] theorem State.refuse_ict (tag k : Byte) (r : RefuseReason) (n : Nat) : (s.refuse tag k r n).ict = s.ict := rfl
@[simp] theorem State.refuse_choices (tag k : Byte) (r : RefuseReason) (n : Nat) : (s.refuse tag k r n).choices = s.choices := rfl
@[simp] theorem State.refuse_pending (tag k : Byte) (r : RefuseReason) (n : Nat) : (s.refuse tag k r n).pending = s.pending := rfl

/-! ### setRx -/

@[simp] theorem State.setRx_now (rx : Receiver) (g : Option Nat) : (s.setRx rx g).now = s.now := rfl
@[simp] theorem State.setRx_hold (rx : Receiver) (g : Option Nat) : (s.setRx rx g).hold = s.hold := rfl
@[simp] theorem State.setRx_pins (rx : Receiver) (g : Option Nat) : (s.setRx rx g).pins = s.pins := rfl
@[simp] theorem State.setRx_enc (rx : Receiver) (g : Option Nat) : (s.setRx rx g).enc = s.enc := rfl
@[simp] theorem State.setRx_las (rx : Receiver) (g : Option Nat) : (s.setRx rx g).las = s.las := rfl
@[simp] theorem State.setRx_ffc (rx : Receiver) (g : Option Nat) : (s.setRx rx g).ffc = s.ffc := rfl
@[simp] theorem State.setRx_lnc (rx : Receiver) (g : Option Nat) : (s.setRx rx g).lnc = s.lnc := rfl
@[simp] theorem State.setRx_spd (rx : Receiver) (g : Option Nat) : (s.setRx rx g).spd = s.spd := rfl
@[simp] theorem State.setRx_sti (rx : Receiver) (g : Option Nat) : (s.setRx rx g).sti = s.sti := rfl
@[simp] theorem State.setRx_trk (rx : Receiver) (g : Option Nat) : (s.setRx rx g).trk = s.trk := rfl
@[simp] theorem State.setRx_cls (rx : Receiver) (g : Option Nat) : (s.setRx rx g).cls = s.cls := rfl
@[simp] theorem State.setRx_rpq (rx : Receiver) (g : Option Nat) : (s.setRx rx g).rpq = s.rpq := rfl
@[simp] theorem State.setRx_ict (rx : Receiver) (g : Option Nat) : (s.setRx rx g).ict = s.ict := rfl
@[simp] theorem State.setRx_choices (rx : Receiver) (g : Option Nat) : (s.setRx rx g).choices = s.choices := rfl
@[simp] theorem State.setRx_pending (rx : Receiver) (g : Option Nat) : (s.setRx rx g).pending = s.pending := rfl

/-! ### listen -/

@[simp] theorem State.listen_now (rx : Receiver) : (s.listen rx).now = s.now := rfl
@[simp] theorem State.listen_hold (rx : Receiver) : (s.listen rx).hold = s.hold := rfl
@[simp] theorem State.listen_pins (rx : Receiver) : (s.listen rx).pins = s.pins := rfl
@[simp] theorem State.listen_enc (rx : Receiver) : (s.listen rx).enc = s.enc := rfl
@[simp] theorem State.listen_las (rx : Receiver) : (s.listen rx).las = s.las := rfl
@[simp] theorem State.listen_ffc (rx : Receiver) : (s.listen rx).ffc = s.ffc := rfl
@[simp] theorem State.listen_lnc (rx : Receiver) : (s.listen rx).lnc = s.lnc := rfl
@[simp] theorem State.listen_spd (rx : Receiver) : (s.listen rx).spd = s.spd := rfl
@[simp] theorem State.listen_sti (rx : Receiver) : (s.listen rx).sti = s.sti := rfl
@[simp] theorem State.listen_trk (rx : Receiver) : (s.listen rx).trk = s.trk := rfl
@[simp] theorem State.listen_cls (rx : Receiver) : (s.listen rx).cls = s.cls := rfl
@[simp] theorem State.listen_rpq (rx : Receiver) : (s.listen rx).rpq = s.rpq := rfl
@[simp] theorem State.listen_ict (rx : Receiver) : (s.listen rx).ict = s.ict := rfl
@[simp] theorem State.listen_choices (rx : Receiver) : (s.listen rx).choices = s.choices := rfl
@[simp] theorem State.listen_pending (rx : Receiver) : (s.listen rx).pending = s.pending := rfl

/-! ### elapse -/

@[simp] theorem State.elapse_hold (t : Nat) : (s.elapse t).hold = s.hold := rfl
@[simp] theorem State.elapse_pins (t : Nat) : (s.elapse t).pins = s.pins := rfl
@[simp] theorem State.elapse_enc (t : Nat) : (s.elapse t).enc = s.enc := rfl
@[simp] theorem State.elapse_las (t : Nat) : (s.elapse t).las = s.las := rfl
@[simp] theorem State.elapse_ffc (t : Nat) : (s.elapse t).ffc = s.ffc := rfl
@[simp] theorem State.elapse_lnc (t : Nat) : (s.elapse t).lnc = s.lnc := rfl
@[simp] theorem State.elapse_spd (t : Nat) : (s.elapse t).spd = s.spd := rfl
@[simp] theorem State.elapse_sti (t : Nat) : (s.elapse t).sti = s.sti := rfl
@[simp] theorem State.elapse_trk (t : Nat) : (s.elapse t).trk = s.trk := rfl
@[simp] theorem State.elapse_cls (t : Nat) : (s.elapse t).cls = s.cls := rfl
@[simp] theorem State.elapse_rpq (t : Nat) : (s.elapse t).rpq = s.rpq := rfl
@[simp] theorem State.elapse_lnk (t : Nat) : (s.elapse t).lnk = s.lnk := rfl
@[simp] theorem State.elapse_ict (t : Nat) : (s.elapse t).ict = s.ict := rfl
@[simp] theorem State.elapse_choices (t : Nat) : (s.elapse t).choices = s.choices := rfl
@[simp] theorem State.elapse_pending (t : Nat) : (s.elapse t).pending = s.pending := rfl

/-! ### reach -/

@[simp] theorem State.reach_hold (t : Nat) : (s.reach t).hold = s.hold := rfl
@[simp] theorem State.reach_pins (t : Nat) : (s.reach t).pins = s.pins := rfl
@[simp] theorem State.reach_enc (t : Nat) : (s.reach t).enc = s.enc := rfl
@[simp] theorem State.reach_las (t : Nat) : (s.reach t).las = s.las := rfl
@[simp] theorem State.reach_ffc (t : Nat) : (s.reach t).ffc = s.ffc := rfl
@[simp] theorem State.reach_lnc (t : Nat) : (s.reach t).lnc = s.lnc := rfl
@[simp] theorem State.reach_spd (t : Nat) : (s.reach t).spd = s.spd := rfl
@[simp] theorem State.reach_sti (t : Nat) : (s.reach t).sti = s.sti := rfl
@[simp] theorem State.reach_trk (t : Nat) : (s.reach t).trk = s.trk := rfl
@[simp] theorem State.reach_cls (t : Nat) : (s.reach t).cls = s.cls := rfl
@[simp] theorem State.reach_rpq (t : Nat) : (s.reach t).rpq = s.rpq := rfl
@[simp] theorem State.reach_lnk (t : Nat) : (s.reach t).lnk = s.lnk := rfl
@[simp] theorem State.reach_ict (t : Nat) : (s.reach t).ict = s.ict := rfl
@[simp] theorem State.reach_choices (t : Nat) : (s.reach t).choices = s.choices := rfl
@[simp] theorem State.reach_pending (t : Nat) : (s.reach t).pending = s.pending := rfl

/-! ### pulse -/

@[simp] theorem State.pulse_now : (s.pulse).now = s.now := rfl
@[simp] theorem State.pulse_hold : (s.pulse).hold = s.hold := rfl
@[simp] theorem State.pulse_enc : (s.pulse).enc = s.enc := rfl
@[simp] theorem State.pulse_las : (s.pulse).las = s.las := rfl
@[simp] theorem State.pulse_ffc : (s.pulse).ffc = s.ffc := rfl
@[simp] theorem State.pulse_lnc : (s.pulse).lnc = s.lnc := rfl
@[simp] theorem State.pulse_spd : (s.pulse).spd = s.spd := rfl
@[simp] theorem State.pulse_sti : (s.pulse).sti = s.sti := rfl
@[simp] theorem State.pulse_trk : (s.pulse).trk = s.trk := rfl
@[simp] theorem State.pulse_cls : (s.pulse).cls = s.cls := rfl
@[simp] theorem State.pulse_rpq : (s.pulse).rpq = s.rpq := rfl
@[simp] theorem State.pulse_lnk : (s.pulse).lnk = s.lnk := rfl
@[simp] theorem State.pulse_ict : (s.pulse).ict = s.ict := rfl
@[simp] theorem State.pulse_choices : (s.pulse).choices = s.choices := rfl
@[simp] theorem State.pulse_pending : (s.pulse).pending = s.pending := rfl

/-! ### freeTrack -/

@[simp] theorem State.freeTrack_now (i : Nat) : (s.freeTrack i).now = s.now := rfl
@[simp] theorem State.freeTrack_hold (i : Nat) : (s.freeTrack i).hold = s.hold := rfl
@[simp] theorem State.freeTrack_pins (i : Nat) : (s.freeTrack i).pins = s.pins := rfl
@[simp] theorem State.freeTrack_enc (i : Nat) : (s.freeTrack i).enc = s.enc := rfl
@[simp] theorem State.freeTrack_las (i : Nat) : (s.freeTrack i).las = s.las := rfl
@[simp] theorem State.freeTrack_ffc (i : Nat) : (s.freeTrack i).ffc = s.ffc := rfl
@[simp] theorem State.freeTrack_lnc (i : Nat) : (s.freeTrack i).lnc = s.lnc := rfl
@[simp] theorem State.freeTrack_spd (i : Nat) : (s.freeTrack i).spd = s.spd := rfl
@[simp] theorem State.freeTrack_sti (i : Nat) : (s.freeTrack i).sti = s.sti := rfl
@[simp] theorem State.freeTrack_rpq (i : Nat) : (s.freeTrack i).rpq = s.rpq := rfl
@[simp] theorem State.freeTrack_lnk (i : Nat) : (s.freeTrack i).lnk = s.lnk := rfl
@[simp] theorem State.freeTrack_ict (i : Nat) : (s.freeTrack i).ict = s.ict := rfl
@[simp] theorem State.freeTrack_choices (i : Nat) : (s.freeTrack i).choices = s.choices := rfl
@[simp] theorem State.freeTrack_pending (i : Nat) : (s.freeTrack i).pending = s.pending := rfl

/-! ### dropAll -/

@[simp] theorem State.dropAll_now : (s.dropAll).now = s.now := rfl
@[simp] theorem State.dropAll_hold : (s.dropAll).hold = s.hold := rfl
@[simp] theorem State.dropAll_pins : (s.dropAll).pins = s.pins := rfl
@[simp] theorem State.dropAll_enc : (s.dropAll).enc = s.enc := rfl
@[simp] theorem State.dropAll_las : (s.dropAll).las = s.las := rfl
@[simp] theorem State.dropAll_ffc : (s.dropAll).ffc = s.ffc := rfl
@[simp] theorem State.dropAll_lnc : (s.dropAll).lnc = s.lnc := rfl
@[simp] theorem State.dropAll_spd : (s.dropAll).spd = s.spd := rfl
@[simp] theorem State.dropAll_sti : (s.dropAll).sti = s.sti := rfl
@[simp] theorem State.dropAll_rpq : (s.dropAll).rpq = s.rpq := rfl
@[simp] theorem State.dropAll_lnk : (s.dropAll).lnk = s.lnk := rfl
@[simp] theorem State.dropAll_ict : (s.dropAll).ict = s.ict := rfl
@[simp] theorem State.dropAll_choices : (s.dropAll).choices = s.choices := rfl
@[simp] theorem State.dropAll_pending : (s.dropAll).pending = s.pending := rfl

/-! ### mapTracks -/

@[simp] theorem State.mapTracks_now (g : Track → Track) : (s.mapTracks g).now = s.now := rfl
@[simp] theorem State.mapTracks_hold (g : Track → Track) : (s.mapTracks g).hold = s.hold := rfl
@[simp] theorem State.mapTracks_pins (g : Track → Track) : (s.mapTracks g).pins = s.pins := rfl
@[simp] theorem State.mapTracks_enc (g : Track → Track) : (s.mapTracks g).enc = s.enc := rfl
@[simp] theorem State.mapTracks_las (g : Track → Track) : (s.mapTracks g).las = s.las := rfl
@[simp] theorem State.mapTracks_ffc (g : Track → Track) : (s.mapTracks g).ffc = s.ffc := rfl
@[simp] theorem State.mapTracks_lnc (g : Track → Track) : (s.mapTracks g).lnc = s.lnc := rfl
@[simp] theorem State.mapTracks_spd (g : Track → Track) : (s.mapTracks g).spd = s.spd := rfl
@[simp] theorem State.mapTracks_sti (g : Track → Track) : (s.mapTracks g).sti = s.sti := rfl
@[simp] theorem State.mapTracks_cls (g : Track → Track) : (s.mapTracks g).cls = s.cls := rfl
@[simp] theorem State.mapTracks_rpq (g : Track → Track) : (s.mapTracks g).rpq = s.rpq := rfl
@[simp] theorem State.mapTracks_lnk (g : Track → Track) : (s.mapTracks g).lnk = s.lnk := rfl
@[simp] theorem State.mapTracks_ict (g : Track → Track) : (s.mapTracks g).ict = s.ict := rfl
@[simp] theorem State.mapTracks_choices (g : Track → Track) : (s.mapTracks g).choices = s.choices := rfl
@[simp] theorem State.mapTracks_pending (g : Track → Track) : (s.mapTracks g).pending = s.pending := rfl

/-! ### withReport -/

@[simp] theorem State.withReport_now (r : Report) : (s.withReport r).now = s.now := rfl
@[simp] theorem State.withReport_hold (r : Report) : (s.withReport r).hold = s.hold := rfl
@[simp] theorem State.withReport_pins (r : Report) : (s.withReport r).pins = s.pins := rfl
@[simp] theorem State.withReport_enc (r : Report) : (s.withReport r).enc = s.enc := rfl
@[simp] theorem State.withReport_las (r : Report) : (s.withReport r).las = s.las := rfl
@[simp] theorem State.withReport_ffc (r : Report) : (s.withReport r).ffc = s.ffc := rfl
@[simp] theorem State.withReport_lnc (r : Report) : (s.withReport r).lnc = s.lnc := rfl
@[simp] theorem State.withReport_spd (r : Report) : (s.withReport r).spd = s.spd := rfl
@[simp] theorem State.withReport_sti (r : Report) : (s.withReport r).sti = s.sti := rfl
@[simp] theorem State.withReport_trk (r : Report) : (s.withReport r).trk = s.trk := rfl
@[simp] theorem State.withReport_cls (r : Report) : (s.withReport r).cls = s.cls := rfl
@[simp] theorem State.withReport_lnk (r : Report) : (s.withReport r).lnk = s.lnk := rfl
@[simp] theorem State.withReport_ict (r : Report) : (s.withReport r).ict = s.ict := rfl
@[simp] theorem State.withReport_choices (r : Report) : (s.withReport r).choices = s.choices := rfl
@[simp] theorem State.withReport_pending (r : Report) : (s.withReport r).pending = s.pending := rfl

/-! ### withReply -/

@[simp] theorem State.withReply_now (tag : Byte) (b : ReplyBody) : (s.withReply tag b).now = s.now := rfl
@[simp] theorem State.withReply_hold (tag : Byte) (b : ReplyBody) : (s.withReply tag b).hold = s.hold := rfl
@[simp] theorem State.withReply_pins (tag : Byte) (b : ReplyBody) : (s.withReply tag b).pins = s.pins := rfl
@[simp] theorem State.withReply_enc (tag : Byte) (b : ReplyBody) : (s.withReply tag b).enc = s.enc := rfl
@[simp] theorem State.withReply_las (tag : Byte) (b : ReplyBody) : (s.withReply tag b).las = s.las := rfl
@[simp] theorem State.withReply_ffc (tag : Byte) (b : ReplyBody) : (s.withReply tag b).ffc = s.ffc := rfl
@[simp] theorem State.withReply_lnc (tag : Byte) (b : ReplyBody) : (s.withReply tag b).lnc = s.lnc := rfl
@[simp] theorem State.withReply_spd (tag : Byte) (b : ReplyBody) : (s.withReply tag b).spd = s.spd := rfl
@[simp] theorem State.withReply_sti (tag : Byte) (b : ReplyBody) : (s.withReply tag b).sti = s.sti := rfl
@[simp] theorem State.withReply_trk (tag : Byte) (b : ReplyBody) : (s.withReply tag b).trk = s.trk := rfl
@[simp] theorem State.withReply_cls (tag : Byte) (b : ReplyBody) : (s.withReply tag b).cls = s.cls := rfl
@[simp] theorem State.withReply_rpq (tag : Byte) (b : ReplyBody) : (s.withReply tag b).rpq = s.rpq := rfl
@[simp] theorem State.withReply_ict (tag : Byte) (b : ReplyBody) : (s.withReply tag b).ict = s.ict := rfl
@[simp] theorem State.withReply_choices (tag : Byte) (b : ReplyBody) : (s.withReply tag b).choices = s.choices := rfl
@[simp] theorem State.withReply_pending (tag : Byte) (b : ReplyBody) : (s.withReply tag b).pending = s.pending := rfl

/-! ### What they write -/

@[simp] theorem State.reply_replies (r : Reply) : (s.reply r).lnk.replies = s.lnk.replies ++ [r] := rfl
@[simp] theorem State.done_replies (tag : Byte) (d : Done) :
    (s.done tag d).lnk.replies = s.lnk.replies ++ [{ tag := tag, body := .done d }] := rfl
@[simp] theorem State.refuse_replies (tag k : Byte) (r : RefuseReason) (n : Nat) :
    (s.refuse tag k r n).lnk.replies = s.lnk.replies ++ [{ tag := tag, body := .refused k r n }] := rfl
theorem State.done_eq_withReply (tag : Byte) (d : Done) : s.done tag d = s.withReply tag (.done d) := rfl
theorem State.refuse_eq_withReply (tag k : Byte) (r : RefuseReason) (n : Nat) :
    s.refuse tag k r n = s.withReply tag (.refused k r n) := rfl
theorem State.badValue_eq_withReply (tag : Byte) (r : Request) (n : Nat) :
    s.badValue tag r n = s.withReply tag (.refused r.code .badValue n) := rfl
@[simp] theorem State.setRx_rx (rx : Receiver) (g : Option Nat) : (s.setRx rx g).lnk.rx = rx := rfl
@[simp] theorem State.setRx_gap (rx : Receiver) (g : Option Nat) : (s.setRx rx g).lnk.gapExpiry = g := rfl
@[simp] theorem State.listen_rx (rx : Receiver) : (s.listen rx).lnk.rx = rx := rfl

/-- A track just written, read back. -/
theorem State.track_setTrack_same (id : Nat) (t : Track) (h : id < s.trk.slots.length) : (s.setTrack id t).track id = t := by
  simp [State.track, Trk.slot, State.setTrack, List.getD, h]

/-- Writing a track leaves every other one. -/
theorem State.track_setTrack_other (id j : Nat) (t : Track) (h : j ≠ id) : (s.setTrack id t).track j = s.track j := by
  simp [State.track, Trk.slot, State.setTrack, List.getD, Ne.symm h]

/-- A lane just written, read back. -/
theorem lane_setLane_same (i : Nat) (l : Lane) (h : i < s.lnc.length) : lane (s.setLane i l) i = l := by
  simp [lane, State.setLane, List.getD, h]

/-- Writing a lane leaves every other one. -/
theorem lane_setLane_other (i j : Nat) (l : Lane) (h : j ≠ i) : lane (s.setLane i l) j = lane s j := by
  simp [lane, State.setLane, List.getD, Ne.symm h]

/-- A slot just written, read back. -/
theorem Las.slot_setSlot_same (i : Nat) (sl : Slot) (h : i < s.las.slots.length) : (s.setSlot i sl).las.slot i = sl := by
  simp [Las.slot, State.setSlot, List.getD, h]

/-- Writing a slot leaves every other one. -/
theorem Las.slot_setSlot_other (i j : Nat) (sl : Slot) (h : j ≠ i) : (s.setSlot i sl).las.slot j = s.las.slot j := by
  simp [Las.slot, State.setSlot, List.getD, Ne.symm h]

/-- A head just written, read back. -/
theorem Las.head_setHead_same (h : Nat) (hd : Head) (hl : h < s.las.heads.length) : (s.setHead h hd).las.head h = hd := by
  simp [Las.head, State.setHead, List.getD, hl]

/-- Writing a head leaves every other one. -/
theorem Las.head_setHead_other (h j : Nat) (hd : Head) (ne : j ≠ h) : (s.setHead h hd).las.head j = s.las.head j := by
  simp [Las.head, State.setHead, List.getD, Ne.symm ne]

end Sys2Proof.Machine
end

