-- ==== Sys2Proof/Laws/Ops.lean ====
section
/-! SUPPORT. One lemma for each shared operation: what a post, an occurrence, a record's reading, MEMORY_FATAL and the settling of an
event can do. -/

namespace Sys2Proof.Machine

/-! ## The report queue -/

/-- A report that has room enters the queue, and raises no notice. -/
theorem Rpq.take_room (q : Rpq) (r : Report) (close : Option Notice) (h : q.queue.length < Config.reportQueueSize)
    (p : 0 < q.priorityOf r.kind) : q.take r close = (q.enter (q.priorityOf r.kind) r close, none) := by
  simp only [Rpq.take]
  rw [if_neg (by omega), if_pos h]

/-- A post that has room enters its report, and does nothing else. -/
theorem post_room (s : State) (r : Report) (close : Option Notice) (h : s.room r.kind) :
    post r close s = { s with rpq := s.rpq.enter (s.rpq.priorityOf r.kind) r close } := by
  simp only [post, postDepth, postWith, Rpq.take_room _ r close h.1 h.2]

/-- A change of inspection state whose STATE report has room. -/
theorem enterState_room (s : State) (st : Inspection) (h : s.room .state) :
    enterState st s = State.withReport { s with ict := { s.ict with state := st } } (.state st s.ict.lastStop) :=
  post_room { s with ict := { s.ict with state := st } } (.state st s.ict.lastStop) none h

/-- The record picked out of a list is one of the list. -/
theorem pick_mem (before : Record → Record → Bool) (l : List Record) (v : Record) (h : pick before l = some v) : v ∈ l := by
  induction l with
  | nil => simp [pick] at h
  | cons r rest ih =>
    simp only [pick] at h
    split at h
    · simp_all
    · split at h
      · simp_all
      · simp_all

/-- A non-empty list has a record to pick. -/
theorem pick_isSome (before : Record → Record → Bool) (l : List Record) (h : l ≠ []) : (pick before l).isSome = true := by
  cases l with
  | nil => exact absurd rfl h
  | cons r rest =>
    simp only [pick]
    split
    · rfl
    · split <;> rfl

/-! ## The end of an event -/

/-- With no procedure due the procedures do nothing. -/
theorem finishProcedures_of_nothingDue (s : State) (h : s.nothingDue) : finishProcedures s = s := by
  have hc : settleCalibration s = s := by
    simp only [settleCalibration]
    split
    · next r hr => rw [if_neg (by simp [h.2 r hr])]
    · rfl
  simp only [finishProcedures, hc, runStop, if_neg h.1]

/-- With nothing waiting for a place of the reply buffer none is given out. -/
theorem serve_of_idle (n : Nat) (s : State) (hh : s.lnk.rejectHold = none) (hc : s.lnk.claimant = none) : serve n s = s := by
  cases n with
  | zero => rfl
  | succ n => simp only [serve, hh, hc]; split <;> rfl

/-- With no request in progress and an empty request queue nothing claims a place. -/
theorem claimant_none (l : Lnk) (hr : l.requests = []) (hp : l.inProgress = none) : l.claimant = none := by
  simp [Lnk.claimant, hr, hp]

/-- With no free place of the reply buffer wanted none is given out. -/
theorem serveAll_of_unwanted (s : State)
    (h : s.lnk.replies.length < Config.replyBufferSize → s.lnk.claimant = none ∧ s.lnk.rejectHold = none) :
    serveAll s = s := by
  rw [serveAll, show s.lnk.requests.length + 3 = s.lnk.requests.length + 2 + 1 from rfl, serve]
  split
  · next hl => rw [(h hl).1, (h hl).2]
  · rfl

/-- A state without a record offered has an empty report queue, and the other way round. -/
theorem Rpq.offered_none (q : Rpq) : q.offered = none ↔ q.queue = [] := by
  constructor
  · intro h
    by_contra hn
    have := pick_isSome Record.before q.queue hn
    simp only [Rpq.offered] at h
    simp [h] at this
  · intro h; simp [Rpq.offered, h, pick]

/-- While a frame is in transmission no other begins (R165). -/
theorem State.sends_of_sending (s : State) (h : s.lnk.tx ≠ none) : s.sends = s := by
  simp only [State.sends]
  split <;> simp_all

/-- With nothing waiting for an IDLE transmitter none begins. -/
theorem State.sends_of_allSent (s : State) (h : s.allSent) : s.sends = s := by
  by_cases ht : s.lnk.tx = none
  · have hq := (Rpq.offered_none s.rpq).mpr (h ht).2
    simp [State.sends, ht, (h ht).1, hq]
  · exact s.sends_of_sending ht

/-- What a frame's beginning can do: nothing, or the oldest reply leaves the buffer, or the offered record leaves the queue, in both
cases with a choice counted at most. -/
theorem State.sends_cases (s : State) :
    s.sends = s ∨ ∃ n, (∃ r rest, s.lnk.replies = r :: rest ∧ s.sends = State.beginReply { s with choices := n } r rest) ∨
      ∃ v, s.rpq.offered = some v ∧ s.sends = State.beginReport { s with choices := n } v := by
  simp only [State.sends]
  split
  · exact .inl rfl
  · exact .inl rfl
  · next r rest _ h _ => exact .inr ⟨s.choices, .inl ⟨r, rest, h, rfl⟩⟩
  · next v _ _ h => exact .inr ⟨s.choices, .inr ⟨v, h, rfl⟩⟩
  · next r rest v _ h h' =>
    split
    · exact .inr ⟨s.choices, .inl ⟨r, rest, h, rfl⟩⟩
    · split
      · exact .inr ⟨_, .inl ⟨r, rest, h, rfl⟩⟩
      · exact .inr ⟨_, .inr ⟨v, h', rfl⟩⟩

/-- A frame's beginning leaves the receiver's side of the link alone. -/
@[simp] theorem State.sends_rejectHold (s : State) : s.sends.lnk.rejectHold = s.lnk.rejectHold := by
  rcases s.sends_cases with h | ⟨n, ⟨r, rest, -, h⟩ | ⟨v, -, h⟩⟩ <;> rw [h] <;> rfl

@[simp] theorem State.sends_requests (s : State) : s.sends.lnk.requests = s.lnk.requests := by
  rcases s.sends_cases with h | ⟨n, ⟨r, rest, -, h⟩ | ⟨v, -, h⟩⟩ <;> rw [h] <;> rfl

@[simp] theorem State.sends_claimant (s : State) : s.sends.lnk.claimant = s.lnk.claimant := by
  rcases s.sends_cases with h | ⟨n, ⟨r, rest, -, h⟩ | ⟨v, -, h⟩⟩ <;> rw [h] <;> rfl

/-- An event after which no procedure is due and nothing wants a place of the reply buffer: what is left is a frame's beginning. -/
theorem settle_of_unclaimed (s : State) (hd : s.nothingDue) (hh : s.lnk.rejectHold = none) (hc : s.lnk.claimant = none) :
    settle s = s.sends := by
  simp only [settle, finishProcedures_of_nothingDue s hd]
  rw [serveAll_of_unwanted s fun _ => ⟨hc, hh⟩]
  exact serveAll_of_unwanted _ fun _ => ⟨by simp [hc], by simp [hh]⟩

/-- An event of a part at rest that posts at most reports: what is left is a frame's beginning. -/
theorem settle_of_posted (s : State) (hd : s.nothingDue)
    (hl : s.lnk.replies.length < Config.replyBufferSize → s.lnk.claimant = none ∧ s.lnk.rejectHold = none)
    (ht : s.lnk.tx = none → s.lnk.replies = []) : settle s = s.sends := by
  by_cases htx : s.lnk.tx = none
  · have := hl (by rw [ht htx]; decide)
    exact settle_of_unclaimed s hd this.2 this.1
  · simp only [settle, finishProcedures_of_nothingDue s hd, serveAll_of_unwanted s hl, s.sends_of_sending htx]

/-- An event after which the part is at rest settles at once. -/
theorem settle_of_atRest (s : State) (h : s.atRest) : settle s = s := by
  rw [settle_of_posted s h.2.1 h.2.2.1 fun ht => (h.2.2.2 ht).1, s.sends_of_allSent h.2.2.2]

/-- A serving part is at rest. -/
theorem State.serving.atRest {s : State} (h : s.serving) : s.atRest :=
  ⟨h.1, h.2.1, fun _ => ⟨claimant_none _ h.2.2.1 h.2.2.2.1, h.2.2.2.2.1⟩, h.2.2.2.2.2⟩

/-- An event after which the part is serving settles at once. -/
theorem settle_of_serving (s : State) (h : s.serving) : settle s = s := settle_of_atRest s h.atRest

/-- An event of a part out of reset, after which the part is at rest. -/
theorem inService_of_atRest (event : State → State) (s : State) (h : s.hold = none) (hs : (event s).atRest) :
    inService event s = .next (event s) := by
  simp [inService, h, settle_of_atRest _ hs]

/-- An event of a part out of reset, after which no procedure is due and nothing wants a place of the reply buffer. -/
theorem inService_of_unclaimed (event : State → State) (s : State) (h : s.hold = none) (hd : (event s).nothingDue)
    (hh : (event s).lnk.rejectHold = none) (hc : (event s).lnk.claimant = none) :
    inService event s = .next (event s).sends := by
  simp [inService, h, settle_of_unclaimed _ hd hh hc]

/-- An event of a part out of reset, after which the part is serving. -/
theorem inService_of_serving (event : State → State) (s : State) (h : s.hold = none) (hs : (event s).serving) :
    inService event s = .next (event s) := by
  simp [inService, h, settle_of_serving _ hs]

/-- While the part is held in reset an event is lost. -/
theorem inService_held (event : State → State) (s : State) (h : s.hold.isSome = true) : inService event s = .next s := by
  simp [inService, h]

/-! ## Posts and what they give rise to -/

/-- A property that the parts of a post keep: the taking of a report, an occurrence's count, the entry into STOPPING, the repair
of a record, the freeing of a HELD track, and the steps of MEMORY_FATAL. -/
structure Stable (P : State → Prop) : Prop where
  take : ∀ s r close, P s → P { s with rpq := (s.rpq.take r close).1 }
  count : ∀ s src, P s → P { s with ict := s.ict.count src }
  stop : ∀ s cause, s.ict.state = .running → P s →
    P { s with ict := { s.ict with state := .stopping, lastStop := cause, limitPending := false } }
  words : ∀ s id l, P s → P (s.setTrack id { s.track id with wrongWords := l })
  free : ∀ s id, (s.track id).state = .held → P s → P (s.freeTrack id)
  release : ∀ s, P s → P s.releaseLine
  abort : ∀ s, P s → P (s.leaveCalibration .aborted)
  drop : ∀ s, P s → P s.dropAll
  lanes : ∀ s, P s → P { s with lnc := s.lnc.map Lane.stopStep }
  fatal : ∀ s, P s → P { s with ict := { s.ict with state := .faulted, lastStop := .fault .memoryFatal, limitPending := false } }
  finish : ∀ s d, P s → P (s.finishRequest d)

/-- A fold keeps what each of its steps keeps. -/
theorem foldl_keeps {α : Type} {P : State → Prop} (f : State → α → State) (h : ∀ s a, P s → P (f s a)) (l : List α)
    (s : State) (hs : P s) : P (l.foldl f s) := by
  induction l generalizing s with
  | nil => exact hs
  | cons a l ih => exact ih _ (h s a hs)

/-- A step taken unless FAULTED keeps what it keeps. -/
theorem unlessFaulted_keeps {P : State → Prop} (f : State → State) (s : State) (hs : P s) (h : P s → P (f s)) :
    P (s.unlessFaulted f) := by
  simp only [State.unlessFaulted]
  split
  · exact hs
  · exact h hs

namespace Stable

variable {P : State → Prop} (hP : Stable P)

include hP

theorem beginStopWith {post : Post} (hp : ∀ r c s, P s → P (post r c s)) (cause : StopCause) (s : State)
    (hr : s.ict.state = .running) (h : P s) : P (beginStopWith post cause s) := hp _ _ _ (hP.stop s cause hr h)

theorem occurWith {post : Post} (hp : ∀ r c s, P s → P (post r c s)) (src : Source) (d l : Option Nat) (s : State)
    (h : P s) : P (occurWith post src d l s) := by
  simp only [Machine.occurWith]
  have h1 := hP.count s src h
  split <;> split
  · next hr => exact hP.beginStopWith hp _ _ hr.2 (hp _ _ _ h1)
  · exact hp _ _ _ h1
  · next hr => exact hP.beginStopWith hp _ _ hr.2 h1
  · exact h1

theorem abortCalibrationWith {post : Post} (hp : ∀ r c s, P s → P (post r c s)) (s : State) (h : P s) :
    P (abortCalibrationWith post s) := by
  simp only [Machine.abortCalibrationWith]
  split
  · split
    · exact hp _ _ _ (hP.abort s h)
    · exact hP.abort s h
  · exact h

theorem memoryFatalWith {post : Post} (hp : ∀ r c s, P s → P (post r c s)) (s : State) (h : P s) :
    P (memoryFatalWith post s) := by
  simp only [Machine.memoryFatalWith]
  have h1 := hP.count s .memoryFatal h
  split
  · exact hP.drop _ h1
  · have h2 := hP.abortCalibrationWith hp _ (hP.release _ h1)
    simp only [State.unlessFaulted]
    split
    · exact h2
    · exact hP.finish _ _ (hp _ _ _ (hp _ _ _ (hP.fatal _ (hP.lanes _ (hP.drop _ h2)))))

theorem correctedWith {post : Post} (hp : ∀ r c s, P s → P (post r c s)) (n : Nat) (s : State) (h : P s) :
    P (correctedWith post n s) := by
  induction n generalizing s with
  | zero => exact h
  | succ n ih => exact ih _ (hP.occurWith hp _ _ _ s h)

theorem readRecordWith {post : Post} (hp : ∀ r c s, P s → P (post r c s)) (id : Nat) (s : State) (h : P s) :
    P (readRecordWith post id s) := by
  simp only [Machine.readRecordWith]
  split
  · exact h
  · have h1 := hP.correctedWith hp
      (((s.track id).wrongWords.takeWhile (fun x => x ≠ .double)).countP (fun x => x = .single)) _
      (hP.words s id ((s.track id).wrongWords.dropWhile (fun x => x ≠ .double)) h)
    split
    · exact h1
    · exact hP.memoryFatalWith hp _ h1

theorem takeNoticeWith {post : Post} (hp : ∀ r c s, P s → P (post r c s)) (n : Notice) (s : State) (h : P s) :
    P (takeNoticeWith post n s) := by
  simp only [Machine.takeNoticeWith]
  have h1 := hP.readRecordWith hp n.id s h
  split
  · next hh => exact hP.free _ _ hh.1 h1
  · exact h1

theorem postDepth (n : Nat) (r : Report) (c : Option Notice) (s : State) (h : P s) : P (postDepth n r c s) := by
  induction n generalizing r c s with
  | zero => exact hP.take s r c h
  | succ n ih =>
    simp only [Machine.postDepth, Machine.postWith]
    have h1 := hP.take s r c h
    split
    · next q hq => rw [hq] at h1; exact h1
    · next q m hq => rw [hq] at h1; exact hP.takeNoticeWith ih m _ h1

/-- A post keeps what its parts keep. -/
theorem post (r : Report) (c : Option Notice) (s : State) (h : P s) : P (Machine.post r c s) := hP.postDepth 5 r c s h

/-- An occurrence keeps what its parts keep. -/
theorem occur (src : Source) (d l : Option Nat) (s : State) (h : P s) : P (Machine.occur src d l s) :=
  hP.occurWith hP.post src d l s h

/-- MEMORY_FATAL keeps what its parts keep. -/
theorem memoryFatal (s : State) (h : P s) : P (Machine.memoryFatal s) := hP.memoryFatalWith hP.post s h

/-- The reading of a record keeps what its parts keep. -/
theorem readRecord (id : Nat) (s : State) (h : P s) : P (Machine.readRecord id s) := hP.readRecordWith hP.post id s h

theorem abortCalibration (s : State) (h : P s) : P (Machine.abortCalibration s) := hP.abortCalibrationWith hP.post s h

theorem beginStop (cause : StopCause) (s : State) (hr : s.ict.state = .running) (h : P s) : P (Machine.beginStop cause s) :=
  hP.beginStopWith hP.post cause s hr h

/-- A change of inspection state keeps what the change itself and a post keep. -/
theorem enterState (st : Inspection) (s : State) (h : P { s with ict := { s.ict with state := st } }) :
    P (Machine.enterState st s) := hP.post _ _ _ h

theorem returnToNormal (head : Nat) (s : State) (h : P s) : P (Machine.returnToNormal head s) := by
  simp only [Machine.returnToNormal]
  split
  · exact hP.post _ _ _ h
  · exact h

end Stable

end Sys2Proof.Machine
end

