-- ==== Sys2Proof/Laws/Link.lean ====
section
/-! SUPPORT. Numbers in bytes, and the processing of a request by a part that is free to take it. -/

namespace Sys2Proof.Machine

/-! ## Numbers in bytes (R170) -/

@[simp] theorem leBytes_length (n v : Nat) : (leBytes n v).length = n := by
  induction n generalizing v with
  | zero => rfl
  | succ n ih => simp [leBytes, ih]

/-- A number that fits its bytes is read back. -/
theorem leNat_leBytes (n v : Nat) (h : v < 256 ^ n) : leNat (leBytes n v) = v := by
  induction n generalizing v with
  | zero => simp only [Nat.pow_zero] at h; simp [leBytes, leNat]; omega
  | succ n ih =>
    have hv : v / 256 < 256 ^ n := by
      rw [Nat.div_lt_iff_lt_mul (by decide)]; rw [Nat.pow_succ] at h; exact h
    simp only [leBytes, leNat, ih _ hv, BitVec.toNat_ofNat]
    omega

/-! ## The frame check (R157, R159) -/

/-- The two CHECK bytes hold the whole of the check. -/
theorem checkBytes_injective (a b : BitVec 16) (h : checkBytes a = checkBytes b) : a = b := by
  simp only [checkBytes, List.cons.injEq, and_true] at h
  obtain ⟨h1, h2⟩ := h
  apply BitVec.eq_of_toNat_eq
  have e1 := congrArg BitVec.toNat h1
  have e2 := congrArg BitVec.toNat h2
  simp only [BitVec.truncate_eq_setWidth, BitVec.toNat_setWidth, BitVec.toNat_ushiftRight, Nat.shiftRight_eq_div_pow] at e1 e2
  have la := a.isLt
  have lb := b.isLt
  omega

/-! ## A request to a part that is free (R159, R161) -/

/-- A free place goes to the one claimant of it. -/
theorem serve_claim {c : Claimant} (n : Nat) (s : State) (hl : s.lnk.replies.length < Config.replyBufferSize)
    (hj : s.lnk.rejectHold = none) (hc : s.lnk.claimant = some c) : serve (n + 1) s = serve n (grant c s) := by
  rw [serve, if_pos hl, hj, hc]

/-- A held REJECT(QUEUE_FULL) takes a free place before the reply of the request in progress (R164). -/
theorem serve_queueFull {d : Reply} {tag : Byte} (n : Nat) (s : State) (hl : s.lnk.replies.length < Config.replyBufferSize)
    (hj : s.lnk.rejectHold = some { tag := tag, body := .reject .queueFull }) (hc : s.lnk.claimant = some (.inProgress d)) :
    serve (n + 1) s = serve n (enterHeld { tag := tag, body := .reject .queueFull } s) := by
  rw [serve, if_pos hl, hj, hc]
  rfl

/-- The frame of a request row is processed at once by a part that is listening. -/
theorem inService_deliver (s : State) (h : s.listening) (k tag : Byte) (p : List Byte) (hp : p.length ≤ Config.payloadLimit) :
    inService (deliver k tag p) s =
      .next (serveAll
        (serve 3 (finishProcedures (processFrame { kind := k, tag := tag, payload := p } s))).sends) := by
  obtain ⟨⟨hh, hd, hr, hi, hj, -⟩, hx, hg, hl, hz⟩ := h
  have e1 : deliver k tag p s =
      { s with lnk := { s.lnk with requests := [{ kind := k, tag := tag, payload := p }] } } := by
    have : s.lnk.requests.length < Config.requestQueueSize := by simp [hr, Config.requestQueueSize]
    simp only [deliver, hx, judgeGood, this, if_true, if_neg (show ¬Config.payloadLimit < p.length by omega), State.setRx]
    simp [hr, ← hx, ← hg]
  have hn : (deliver k tag p s).lnk.requests.length + 3 = 3 + 1 := by rw [e1]; rfl
  have hc : (deliver k tag p s).lnk.claimant = some (.head { kind := k, tag := tag, payload := p } []) := by
    rw [e1]; simp [Lnk.claimant, hi, hz]
  have e2 : { deliver k tag p s with lnk := { (deliver k tag p s).lnk with requests := [] } } = s := by
    rw [e1]; cases s; rename_i l _ _ _; cases l; simp_all
  have e3 : serveAll (deliver k tag p s) =
      serve 3 (finishProcedures (processFrame { kind := k, tag := tag, payload := p } s)) := by
    rw [serveAll, hn, serve_claim 3 _ (by rw [e1]; exact hl) (by rw [e1]; exact hj) hc, grant, e2]
  rw [inService, if_neg (by simp [hh]), settle, finishProcedures_of_nothingDue _ (by rw [e1]; exact hd), e3]

/-- A part that is free: no procedure is due, and nothing claims a place of the reply buffer. -/
def State.rests (s : State) : Prop := s.nothingDue ∧ s.lnk.rejectHold = none ∧ s.lnk.claimant = none

/-- The end of a request's processing after which the part rests. -/
theorem serve_of_rests (n : Nat) (s : State) (h : s.rests) : serve n (finishProcedures s) = s := by
  rw [finishProcedures_of_nothingDue s h.1]
  exact serve_of_idle n s h.2.1 h.2.2

/-- A request whose processing leaves nothing due and nothing wanting a place: what is left is a frame's beginning. -/
theorem inService_deliver_rests (s : State) (h : s.listening) (k tag : Byte) (p : List Byte)
    (hp : p.length ≤ Config.payloadLimit) (t : State)
    (ht : processFrame { kind := k, tag := tag, payload := p } s = t) (hr : t.rests) :
    inService (deliver k tag p) s = .next t.sends := by
  rw [inService_deliver s h k tag p hp, ht, serve_of_rests 3 t hr,
    serveAll_of_unwanted _ fun _ => ⟨by simp [hr.2.2], by simp [hr.2.1]⟩]

/-- A listening part rests. -/
theorem State.listening.rests {s : State} (h : s.listening) : s.rests :=
  ⟨h.1.2.1, h.1.2.2.2.2.1, claimant_none _ h.1.2.2.1 h.1.2.2.2.1⟩

/-- A listening part with one reply more rests. -/
theorem State.listening.rests_withReply {s : State} (h : s.listening) (tag : Byte) (b : ReplyBody) :
    (s.withReply tag b).rests :=
  ⟨h.1.2.1, h.1.2.2.2.2.1, claimant_none _ h.1.2.2.1 h.1.2.2.2.1⟩

/-- A request that the generic checks pass to its owning block. -/
theorem processFrame_taken (s : State) (r : Request) (tag : Byte) (p : List Byte) (hs : refusedByState r s.ict.state = none)
    (hl : r.lengthOk p = true) : processFrame { kind := r.code, tag := tag, payload := p } s = handle r tag p s := by
  have : Request.ofCode r.code = some r := by cases r <;> decide
  simp [processFrame, this, hs, hl]

end Sys2Proof.Machine
end

