-- ==== Sys2Proof/WellFormed.lean ====
section
/-! DEFINITION. When a command is well formed: its payload fits a frame, and an UNKNOWN_KIND frame names no request. -/

namespace Sys2Proof

/-- The payload of a request command, and none for the other rows. -/
def Instr.payload? : Instr → Option (List Byte)
  | .unknownKind _ _ p | .ident _ p | .readStatus _ p _ | .reset _ p | .clearFault _ p | .start _ p | .stop _ p
  | .calibrate _ p | .setHead _ p | .setEncoder _ p | .splice _ p | .setLane _ p | .armLane _ p | .clearLane _ p
  | .setSpot _ p | .setStreak _ p | .setClips _ p | .loadTable _ p | .readTable _ p | .setPriority _ p
  | .setFaultAction _ p | .setAttention _ p | .readTrack _ p | .listTracks _ p | .releaseTrack _ p | .readClip _ p => some p
  | .encoderEdge .. | .standstillTimerExpiry | .spliceIn _ | .calibrationTimerExpiry | .closeOutWaitExpiry
  | .headLineStart _ | .headRawLevel _ _ | .headLineEnd _ | .lineHandover | .lncStage | .spdStage | .stiStage
  | .trkStage | .linkByte _ _ | .gapTimerExpiry | .frameBoundary | .powerOnReset | .pinResetAssert | .pinResetEnd => none

/-- A frame's payload holds at most 1,024 bytes (10.2). -/
def Instr.payloadFits (i : Instr) : Bool :=
  match i.payload? with
  | some p => decide (p.length ≤ Config.payloadLimit)
  | none => true

/-- The KIND of an UNKNOWN_KIND frame is no request code (R162 step 1). -/
def Instr.kindUnknown (i : Instr) : Bool :=
  match i with
  | .unknownKind k _ _ => (Request.ofCode k).isNone
  | _ => true

/-- A well-formed command. -/
def Instr.wf (i : Instr) : Bool := i.payloadFits && i.kindUnknown

/-- Of two edges that arrive together the one on ENC_A stands first: no edge on ENC_A follows an edge on ENC_B at once and with no
time between them (R1, log 37). -/
def edgesOrdered : List Instr → Bool
  | .encoderEdge .b _ _ :: .encoderEdge .a _ 0 :: _ => false
  | _ :: rest => edgesOrdered rest
  | [] => true

/-- A well-formed queue of commands. -/
def queueWf (queue : List Instr) : Bool := queue.all Instr.wf && edgesOrdered queue

end Sys2Proof
end

