-- ==== Sys2Proof/Tests/Slice0.lean ====
section
/-! SUPPORT. Tests: the well-formedness checks, worked examples of the manual, and for each statement with hypotheses states and
operands that meet them. -/

namespace Sys2Proof.Tests

open Sys2Proof.Machine

/-! ## When the hypotheses of a statement hold -/

/-- No procedure is due, as a test. -/
def calm (s : State) : Bool :=
  !(s.ict.state == .stopping && s.las.processing.isNone) &&
  match s.ffc.record with
  | some r => !calibrationDue r s
  | none => true

theorem nothingDue_of_calm (s : State) (h : calm s = true) : s.nothingDue := by
  simp only [calm, Bool.and_eq_true, Bool.not_eq_true', Bool.and_eq_false_iff] at h
  refine ⟨fun hn => ?_, fun r hr => ?_⟩
  · rcases h.1 with h1 | h1
    · simp [hn.1] at h1
    · simp [hn.2] at h1
  · have := h.2; rw [hr] at this; simpa using this

/-- Nothing waits for an IDLE transmitter, as a test. -/
def sent (s : State) : Bool := s.lnk.tx.isSome || (s.lnk.replies.isEmpty && s.rpq.queue.isEmpty)

theorem allSent_of_sent (s : State) (h : sent s = true) : s.allSent := by
  intro ht
  simpa [sent, ht] using h

/-- The part is serving, as a test. -/
def free (s : State) : Bool :=
  s.hold.isNone && calm s && s.lnk.requests.isEmpty && s.lnk.inProgress.isNone && s.lnk.rejectHold.isNone && sent s

theorem serving_of_free (s : State) (h : free s = true) : s.serving := by
  simp only [free, Bool.and_eq_true, Option.isNone_iff_eq_none, List.isEmpty_iff] at h
  exact ⟨h.1.1.1.1.1, nothingDue_of_calm s h.1.1.1.1.2, h.1.1.1.2, h.1.1.2, h.1.2, allSent_of_sent s h.2⟩

theorem atRest_of_free (s : State) (h : free s = true) : s.atRest :=
  have hs := serving_of_free s h
  ⟨hs.1, hs.2.1, fun _ => ⟨by simp [Lnk.claimant, hs.2.2.1, hs.2.2.2.1], hs.2.2.2.2.1⟩, hs.2.2.2.2.2⟩

/-- The part listens, as a test. -/
def open' (s : State) : Bool :=
  free s && decide (s.lnk.rx = .hunting) && s.lnk.gapExpiry.isNone && decide (s.lnk.replies.length < 4) && !s.lnk.resetPending

theorem listening_of_open (s : State) (h : open' s = true) : s.listening := by
  simp only [open', Bool.and_eq_true, decide_eq_true_eq, Option.isNone_iff_eq_none, Bool.not_eq_true'] at h
  exact ⟨serving_of_free s h.1.1.1.1, h.1.1.1.2, h.1.1.2, h.1.2, h.2⟩

/-! ## States -/

/-- A head whose used window is its pixels 8 to 47 and whose reference window, when on, is its pixels 0 to 3. -/
def someHead (refCount : Nat) (d : Delivery) : Head :=
  { settings := { enabled := true, first := 8, count := 40, refFirst := 0, refCount := refCount }, delivery := d
    lastMean := none, lowLive := false }

/-- A lane of columns 2 to 37 whose band is 100 to 400. -/
def someLane (st : LaneState) : Lane :=
  { Lane.reset with
    settings := some
      { first := 2, last := 37, guard := 2, lo := 100, hi := 400, bare := 600, enter := 2, leave := 2, leadGuard := 1
        lengthMin := 0, lengthMax := 0 }
    state := st }

/-- The part with head 0 enabled, page 0 of both tables loaded and lane 3 in a state, in an inspection state. -/
def part (st : Inspection) (l : LaneState) (d : Delivery) : State :=
  { State.reset with
    now := 1000
    las := { State.reset.las with
      heads := [someHead 0 d, Head.reset, Head.reset, Head.reset]
      geometry := geometryOf [(someHead 0 d).settings, HeadSettings.default, HeadSettings.default, HeadSettings.default] }
    ffc := { State.reset.ffc with dark := { words := [], loaded := [0] }, gain := { words := [], loaded := [0] } }
    lnc := State.reset.lnc.set 3 (someLane l)
    enc := { State.reset.enc with highWater := 7, web := .moving, standstillExpiry := some 9000 }
    ict := { State.reset.ict with state := st } }

def stopped : State := part .stopped .ready .idle
def running : State := part .running .seeking .idle
def faulted : State := part .faulted .ready .idle

/-- A state with a change to its line assembler. -/
def withLas (s : State) (g : Las → Las) : State := { s with las := g s.las }

/-- Slot 0 with a line. -/
def withSlot (s : State) (sl : Slot) : State := withLas s fun l => { l with slots := l.slots.set 0 sl }

/-- A line that head 0 owes. -/
def owedLine (kind : LineKind) : Slot :=
  { Slot.blank with state := .assembling, kind := kind, number := 17, owed := [0], claim := 1 }

/-- A line that no head owes. -/
def wholeLine (kind : LineKind) : Slot :=
  { Slot.blank with state := .complete, kind := kind, number := 17, claim := 1, raw := [(0, 1023), (1, 500), (2, 30)] }

/-- Slot 0's line in processing, having passed some stages. -/
def inStage (s : State) (sl : Slot) (lnc spd sti : Bool) : State :=
  withLas (withSlot s sl) fun l => { l with processing := some { slot := 0, lnc := lnc, spd := spd, sti := sti } }

/-- The part in CALIBRATING with one calibration's record. -/
def calibrating (remaining taken : Nat) (closeOut : CloseOut) (d : Delivery) : State :=
  let s := part .calibrating .ready d
  { s with
    enc := { s.enc with
      standstillExpiry := none, calExpiry := if remaining = 0 then none else some 3000, calPeriod := 2000
      calRemaining := remaining }
    ffc := { s.ffc with
      active := true
      record := some
        { kind := .dark, mode := .apply, lines := 4, period := 200, target := 800, taken := taken, missing := []
          closeOut := closeOut } } }

/-- Track slot 5 with a record. -/
def withTrack (s : State) (t : Track) : State :=
  { s with trk := { s.trk with slots := s.trk.slots.set 5 t, freeList := (List.range 64).erase 5 } }

/-- A SPOT track of lane 3. -/
def spotTrack (st : TrackState) (area : Nat) : Track :=
  { Track.blank with
    state := st, lane := 3, firstLine := 10, lastLine := 16, inspected := 7, columns := { lo := 12, hi := 14 }
    lastSpan := { lo := 12, hi := 13 }, matchSpan := { lo := 12, hi := 13 }, area := area, peakDeviation := some 90
    patchesCrossed := 1 }

/-- A full report queue. -/
def fullQueue (p : Nat) : List Record :=
  (List.range 128).map fun i => { report := .web none i, priority := p, entry := i + 1, close := none }

/-- The head-0 state with a reference window of 4 pixels. -/
def receiving (refCount pixels : Nat) : State :=
  withLas (withSlot (part .running .coated (.receiving 0 pixels 7)) (owedLine .run)) fun l =>
    { l with heads := [someHead refCount (.receiving 0 pixels 7), Head.reset, Head.reset, Head.reset] }

/-- The part with one line that head 0 owes, head 0 in a delivery state. -/
def owing (d : Delivery) : State := withSlot (part .running .coated d) (owedLine .run)

/-- ENC changed. -/
def withEnc (s : State) (g : Enc → Enc) : State := { s with enc := g s.enc }

/-- LNK changed. -/
def withLnk (s : State) (g : Lnk → Lnk) : State := { s with lnk := g s.lnk }

/-- Lane 3 changed. -/
def withLane (s : State) (l : Lane) : State := { s with lnc := s.lnc.set 3 l }

/-- A COATED lane with its patch record. -/
def coatedLane : Lane :=
  { someLane .coated with patch := some { start := 9, flags := Marks.none, spots := 0, voids := 0 }, patchNumber := 4 }

/-- `n` replies waiting. -/
def replies (n : Nat) : List Reply := (List.range n).map fun _ => { tag := 9, body := .done .ident }

/-- A part that receives the second CHECK byte next, with replies waiting. -/
def checking (n : Nat) : State :=
  withLnk running fun l =>
    { l with
      rx := .check 1 7 [] 0x77E4#16 (some 0x77#8), gapExpiry := some 2000, replies := replies n
      tx := some (.report (.web none 0)) }

/-- A full reply buffer, a REJECT(QUEUE_FULL) in the reject hold and STOP in progress with its reply. -/
def fullOfReplies : State :=
  withLnk running fun l =>
    { l with
      rx := .held, replies := replies 4, rejectHold := some { tag := 26, body := .reject .queueFull }
      inProgress := some { tag := 21, reply := some { tag := 21, body := .done (.stop .stopped .request) } }
      tx := some (.report (.web none 0)) }

/-- A part with reports to send. -/
def sending (n tally : Nat) : State :=
  { withLnk running (fun l => { l with replies := replies n, tx := some (.report (.web none 0)) }) with
    rpq := { running.rpq with queue := (fullQueue 1).take 3, tally := tally, lostKinds := [.spot], lostLines := some (3, 9) } }

/-- A held track with a clip of two rows. -/
def heldTrack : Track := { spotTrack .held 9 with clip := { Clip.blank with blocks := [7], rows := 2, wordsUsed := 20, first := false } }

def withHeld (wrong : List Health) : State :=
  { withTrack running { heldTrack with wrongWords := wrong } with
    cls := { running.cls with pool := (List.range 1024).erase 7 } }

/-- ICT changed. -/
def withIct (s : State) (g : Ict → Ict) : State := { s with ict := g s.ict }

/-- FFC changed. -/
def withFfc (s : State) (g : Ffc → Ffc) : State := { s with ffc := g s.ffc }

/-- TRK changed. -/
def withTrk (s : State) (g : Trk → Trk) : State := { s with trk := g s.trk }

/-- CLS changed. -/
def withCls (s : State) (g : Cls → Cls) : State := { s with cls := g s.cls }

/-- RPQ changed. -/
def withRpq (s : State) (g : Rpq → Rpq) : State := { s with rpq := g s.rpq }

/-- No slot is FREE. -/
def crowded (s : State) (kind : LineKind) : State := withLas s fun l => { l with slots := List.replicate 8 (wholeLine kind) }

/-- One word of a table with a wrong check. -/
def withWord (s : State) (id : TableId) (k v : Nat) (health : Health) : State :=
  withFfc s fun f => f.setTable id { f.table id with words := [(k, { val := v, health := health })] }

/-- What a command answers, when it answers a next state. -/
def after (o : Answer) : State :=
  match o with
  | .next t => t
  | .fault _ | .refused _ => State.reset

def answersNext (o : Answer) : Bool :=
  match o with
  | .next _ => true
  | .fault _ | .refused _ => false

theorem next_of (o : Answer) (h : answersNext o = true) : o = .next (after o) := by
  cases o <;> simp_all [answersNext, after]

/-! ## More hypotheses as tests -/

theorem takes_of (s : State) (src : Source)
    (h : ((decide (s.ict.action src = .ignore) || s.ict.latches.getD src.code false ||
        (decide (s.rpq.queue.length < 128) && decide (0 < s.rpq.priorityOf .fault))) &&
      !(decide (s.ict.action src = .stop) && decide (s.ict.state = .running))) = true) : s.takes src := by
  simp only [Bool.and_eq_true, Bool.or_eq_true, decide_eq_true_eq, Bool.not_eq_true', Bool.and_eq_false_iff,
    decide_eq_false_iff_not] at h
  refine ⟨?_, fun hn => ?_⟩
  · rcases h.1 with (h1 | h1) | h1
    · exact .inl h1
    · exact .inr (.inl h1)
    · exact .inr (.inr h1)
  · rcases h.2 with h2 | h2
    · exact h2 hn.1
    · exact h2 hn.2

theorem takes_congr {s t : State} {src : Source} (hi : t.ict = s.ict) (hr : t.rpq = s.rpq) (h : s.takes src) : t.takes src := by
  simpa only [State.takes, State.room, hi, hr] using h

theorem room_of (s : State) (k : ReportKind)
    (h : (decide (s.rpq.queue.length < 128) && decide (0 < s.rpq.priorityOf k)) = true) : s.room k := by
  simp only [Bool.and_eq_true, decide_eq_true_eq] at h
  exact h

/-- The STOP procedure can run to its end, as a test. -/
def endsStop (s : State) : Bool :=
  (List.range 64).all (fun id => !decide ((s.track id).state = .open) || decide ((s.track id).wrongWords = [])) &&
  let u := State.allClosed { s with las := s.las.discardSlots (fun sl => sl.state ≠ .free) }
  decide (u.ict.state ≠ .faulted) && decide (u.rpq.queue.length < 128) && decide (0 < u.rpq.priorityOf .state)

theorem runs_of (s : State) (h : endsStop s = true) : s.stopRuns := by
  simp only [endsStop, Bool.and_eq_true, decide_eq_true_eq] at h
  exact ⟨fun id hi ho => by simpa [ho] using List.all_eq_true.mp h.1 id (by simpa using hi), h.2.1.1, h.2.1.2, h.2.2⟩

theorem not_ignored (s : State) (e : Nat) (h : s.enc.lastEdge = none) : ¬s.edgeIgnored e := by
  simp [State.edgeIgnored, h]

theorem forward_of (s : State) (c : Channel) (l : Bool) (e : Nat)
    (h : s.ict.state ≠ .calibrating ∧ s.enc.lastEdge = none ∧ s.enc.settings.direction = .aLeads ∧
      ((s.enc.levelA, s.enc.levelB), s.pairAfter c l) ∈ aLeadsForward) : s.edgeForward c l e :=
  ⟨h.1, not_ignored s e h.2.1, by rw [h.2.2.1]; exact h.2.2.2⟩

theorem reverse_of (s : State) (c : Channel) (l : Bool) (e : Nat)
    (h : s.ict.state ≠ .calibrating ∧ s.enc.lastEdge = none ∧ s.enc.settings.direction = .aLeads ∧
      (s.pairAfter c l, (s.enc.levelA, s.enc.levelB)) ∈ aLeadsForward) : s.edgeReverse c l e :=
  ⟨h.1, not_ignored s e h.2.1, by rw [h.2.2.1]; exact h.2.2.2⟩

theorem ready_of (s : State)
    (h : (decide (s.las.heads.length = 4) && decide (s.las.slots.length = 8) &&
      s.las.heads.all (fun h => !h.settings.enabled || decide (h.delivery = .idle) || decide (h.delivery = .waiting .dropped) ||
        decide (h.delivery = .discarding none) || decide (h.delivery = .discarding (some .dropped))))
        = true) : s.headsReady := by
  simp only [Bool.and_eq_true, decide_eq_true_eq] at h
  exact ⟨h.1.1, h.1.2, fun j hj he => by simpa [he, or_assoc] using List.all_eq_true.mp h.2 j hj⟩

theorem slot_of (s : State) (i : Nat)
    (h : (decide (i < 8) && decide ((s.las.slot i).state = .free) &&
      (List.range i).all (fun j => decide ((s.las.slot j).state ≠ .free))) = true) : s.freeSlotIs i := by
  simp only [Bool.and_eq_true, decide_eq_true_eq] at h
  exact ⟨h.1.1, h.1.2, fun j hj => by simpa using List.all_eq_true.mp h.2 j (by simpa using hj)⟩

theorem bad_of (ok : List Bool) (i : Nat) (h : (!ok.getD i true && (List.range i).all (fun j => ok.getD j true)) = true) :
    firstBad ok i := by
  simp only [Bool.and_eq_true, Bool.not_eq_true'] at h
  exact ⟨h.1, fun j hj => by simpa using List.all_eq_true.mp h.2 j (by simpa using hj)⟩

theorem fits_of (widths values : List Nat)
    (h : (decide (values.length = widths.length) && (widths.zip values).all (fun p => decide (p.2 < 256 ^ p.1))) = true) :
    fitsWidths widths values := by
  simp only [Bool.and_eq_true, decide_eq_true_eq] at h
  exact ⟨h.1, fun p hp => by simpa using List.all_eq_true.mp h.2 p hp⟩

theorem stopped_listens : stopped.listening := listening_of_open _ (by decide +kernel)
theorem running_listens : running.listening := listening_of_open _ (by decide +kernel)
theorem faulted_listens : faulted.listening := listening_of_open _ (by decide +kernel)
theorem running_rests : running.atRest := atRest_of_free _ (by decide +kernel)
theorem stopped_rests : stopped.atRest := atRest_of_free _ (by decide +kernel)

/-! ## Well-formedness -/

theorem test_wf_refuses_long_payload : (Instr.ident 0 (List.replicate 1025 0)).wf = false := by decide +kernel
theorem test_wf_refuses_known_kind : (Instr.unknownKind 0x32 0 []).wf = false := by decide
theorem test_wf_refuses_edges_out_of_order : queueWf [.encoderEdge .b true 4, .encoderEdge .a true 0] = false := by decide
theorem test_wf_takes_edges_in_order :
    queueWf (arrive [.encoderEdge .b true 4] (.encoderEdge .a true 0)) = true := by decide
theorem test_wf_takes_unknown_kind : (Instr.unknownKind 0x33 0 (List.replicate 1024 0)).wf = true := by decide +kernel

/-- No row of the table gives bits. -/
theorem test_no_bits : decodeTableWord 0 0 = none := by decide

/-! ## The manual's examples -/

/-- 10.10: the IDENT request with TAG 07. -/
theorem test_ident_frame : frameBytes 0x01 0x07 [] = [0xA5, 0x01, 0x07, 0x00, 0x00, 0x77, 0xE4] := by decide +kernel

/-- Table VIII, step 2: the count that completes the pitch issues line 17. -/
theorem test_backing_web_issue :
    let s := withEnc running fun e => { e with highWater := 7, nextLine := 17 }
    let t := after (exec (.encoderEdge .a true 10) s)
    (t.enc.highWater, t.enc.lag, t.enc.nextLine) = (0, 0, 18) := by decide +kernel

/-- Table VIII, step 3: a reverse count raises the lag and leaves the high-water mark. -/
theorem test_backing_web_reverse :
    let t := after (exec (.encoderEdge .b true 10) (withEnc running fun e => { e with lag := 3 }))
    (t.enc.highWater, t.enc.lag) = (7, 4) := by decide +kernel

/-- Table IX, line 44: a pending splice reloads the suppression count. -/
theorem test_splice_reload :
    let s := withEnc running fun e =>
      { e with nextLine := 44, splicePending := true, suppression := 1, settings := { e.settings with spliceLines := 3 } }
    let t := after (exec (.encoderEdge .a true 10) s)
    (t.enc.splicePending, t.enc.suppression, (t.las.slot 0).suppressed) = (false, 2, true) := by decide +kernel

/-- Table X: heads 0, 2 and 3. -/
theorem test_stitching :
    let h (e : Bool) (first count : Nat) : Head :=
      { Head.reset with settings := { enabled := e, first := first, count := count, refFirst := 0, refCount := 0 } }
    let l : Las := { State.reset.las with heads := [h true 16 2000, h false 0 2048, h true 40 1900, h true 0 2048] }
    (l.width, l.base 2 + 1000 - 40, l.base 3) = (5948, 2960, 3900) := by decide +kernel

/-- Table XVI: the means of deliveries 1, 3, 5 and 6. -/
theorem test_lamp_means : [11270, 9545, 10848, 10880].map (referenceMean · 32) = [352, 298, 339, 340] := by decide +kernel

/-- Table XVII. -/
theorem test_corrected_levels :
    [correctedPixel 612 40 4710, correctedPixel 30 40 4096, correctedPixel 41 40 2048, correctedPixel 41 40 2047,
      correctedPixel 1000 10 6000, correctedPixel 1023 40 4096, correctedPixel 1023 40 0] =
    [.level 658, .level 0, .level 1, .level 0, .level 1023, .saturated, .excluded] := by decide +kernel

/-- Table XX. -/
theorem test_gain_entries :
    [brightEntry 800 612 40, brightEntry 800 45 40, brightEntry 800 30 40, brightEntry 800 50 40, brightEntry 800 1023 0] =
    [5729, 0, 0, 65535, 3203] := by decide +kernel

/-- Chapter 4's example of a class: 278 valid columns. -/
theorem test_class : (classify 278 139, classify 278 138, classify 0 0) = (.bare, .coated, .blind) := by decide

/-- Table XXXII's lane 2. -/
def lane2 : LaneSettings :=
  { first := 1000, last := 1499, guard := 20, lo := 100, hi := 200, bare := 900, enter := 3, leave := 4, leadGuard := 2
    lengthMin := 10, lengthMax := 0 }

/-- Table XXXII, line 104: patch 7 opens from line 101, under the lead guard. -/
theorem test_patch_opens :
    let l := { Lane.reset with
      settings := some lane2, state := .seeking, patchNumber := 6, enterRun := 2, enterFirst := 101
      enterMarks := { splice := true, interrupted := false } }
    let st := l.advance 2 lane2
      { number := 104, suppressed := false, droppedBefore := 0, cls := classify 460 7, bareCount := 7 }
    (st.lane.state, st.lane.leadGuard, st.result, st.opened, st.lane.patchNumber, st.lane.patch.map (·.start)) =
      (.coated, 1, .leadGuard, true, 7, some 101) := by decide +kernel

/-- Table XXXII, line 110: the bare run of lines 107 to 109 ends as a void. -/
theorem test_void :
    let l := { coatedLane with settings := some lane2, patchNumber := 7, bareRun := 3, bareFirst := 107, bareLast := 109, bareLargest := 312 }
    let st := l.advance 2 lane2
      { number := 110, suppressed := false, droppedBefore := 0, cls := classify 460 10, bareCount := 10 }
    (st.result, st.lane.bareRun, st.void) = (.inspected, 0, some (.void 2 7 107 109 312)) := by decide +kernel

/-- Table XXXII, line 116: the patch ends at line 111. -/
theorem test_patch_ends :
    let l := { coatedLane with settings := some lane2, patchNumber := 7, bareRun := 3, bareFirst := 112, bareLast := 115, bareLargest := 455 }
    let st := l.advance 2 lane2
      { number := 116, suppressed := false, droppedBefore := 0, cls := classify 460 449, bareCount := 449 }
    (st.lane.state, st.result, st.ended, st.lane.ended.map (·.endLine)) = (.gap, .bare, true, some 111) := by decide +kernel

/-- Tables XXXVII and XXXVIII: the runs of lane 3, its columns counted from 2000. -/
theorem test_runs :
    let level (c : Nat) : Pixel :=
      ((List.lookup c [(41, .level 340), (42, .level 310), (43, .saturated), (44, .excluded), (45, .level 330), (46, .level 120),
        (47, .level 400), (48, .level 135), (51, .level 500), (97, .level 900)] : Option Pixel)).getD (.level 240)
    let c := { lane2 with first := 0, last := 99, guard := 4, lo := 180, hi := 260 }
    let t := { Spd.reset with darkMargin := 40, gapTolerance := 1 }
    laneRuns t 3 c ((List.range 100).map level) =
      [{ lane := 3, polarity := .bright, first := 41, last := 47, pixels := 4, peak := 763, saturated := true },
       { lane := 3, polarity := .dark, first := 46, last := 48, pixels := 2, peak := 60, saturated := false },
       { lane := 3, polarity := .bright, first := 51, last := 51, pixels := 1, peak := 240, saturated := false }] := by
  decide +kernel

/-- Table XLIV, lines 4, 7 and 15, and the settled value 96. -/
theorem test_accumulator :
    ([18, 33, 61, 96].map (newAccumulator 4 · 6), newAccumulator 4 (-18) (-6), newAccumulator 4 15 0) =
      ([23, 37, 64, 96], -23, 15) := by decide +kernel

/-- 6.7.1: ALERT at T_on 64, still ALERT at T_off 48, QUIET at 45. -/
theorem test_alert :
    (alertStep 64 48 none 64, alertStep 64 48 none 61, alertStep 64 48 (some .bright) 48, alertStep 64 48 (some .bright) 45) =
      (some .bright, none, some .bright, none) := by decide +kernel

/-- 6.2: a T_off of 900 with a T_on of 500 becomes 499. -/
theorem test_toff_lowered :
    (after (exec (rowOf .setStreak 1 [4, 500, 900, 8, 200, 0]) stopped)).sti.tOff = 499 := by decide +kernel

/-- Table LXXV, step 1: STOP with a line in processing is the request in progress, the state is STOPPING, and at the IDLE transmitter
the frame of the STATE report begins. -/
theorem test_stop_in_progress :
    let t := after (exec (.stop 21 []) (inStage running (wholeLine .run) true false false))
    (t.ict.state, t.lnk.inProgress, t.lnk.replies, t.lnk.tx) =
      (.stopping, some { tag := 21, reply := none }, [], some (.report (.state .stopping .request))) := by decide +kernel

/-- R164: at the boundary that frees a place of the full reply buffer, a held REJECT(QUEUE_FULL) enters it before STOP's own DONE. -/
theorem test_queue_full_before_stop :
    let t := after (exec .frameBoundary fullOfReplies)
    (t.lnk.replies.map (·.tag), t.lnk.rejectHold, t.lnk.inProgress.map (·.tag)) = ([9, 9, 9, 26], none, some 21) := by
  decide +kernel

/-- Table LXXV, step 3: a frame that finds the request queue full is rejected with QUEUE_FULL. -/
theorem test_queue_full :
    let s := withLnk (inStage running (wholeLine .run) true false false) fun l =>
      { l with
        inProgress := some { tag := 21, reply := none }
        requests := List.replicate 4 { kind := 0x02, tag := 22, payload := [] } }
    let t := after (exec (.ident 26 []) s)
    (t.lnk.rejects, t.lnk.tx, t.lnk.requests.length) =
      ([0, 0, 0, 1], some (.reply { tag := 26, body := .reject .queueFull }), 4) := by decide +kernel

/-- R165: a reply that comes while the transmitter is IDLE begins in the same event. -/
theorem test_idle_begins :
    let t := after (exec (.ident 7 []) stopped)
    (t.lnk.tx, t.lnk.replies) = (some (.reply { tag := 7, body := .done .ident }), []) := by decide +kernel

/-- R126: an uncorrectable word of track 6 abandons the line at that track's turn, after track 5 has closed. -/
theorem test_record_read_at_its_turn :
    let o : LaneOutcome :=
      { lane := 3, result := .laneChanged, patchNumber := 4, patchOpened := false, patchEnd := false, suppressed := false
        droppedBefore := 0 }
    let s := inStage (withTrack running (spotTrack .open 9)) { wholeLine .run with outcomes := [o] } true true true
    let s := { withLnk s (fun l => { l with tx := some (.report (.web none 0)) }) with
      trk := { s.trk with slots := s.trk.slots.set 6 { spotTrack .open 9 with wrongWords := [.double] } } }
    (after (exec .trkStage s)).rpq.queue.map (·.report.kind) = [.spot, .fault, .state] := by decide +kernel

/-- R177: a pin reset holds the part, and its end starts it with the cause PIN. -/
theorem test_pin_reset :
    let t := after (exec .pinResetEnd (after (exec .pinResetAssert running)))
    (t.hold, t.ict.resetCause, t.ict.state) = (none, .pin, .stopped) := by decide +kernel

/-! ## Witnesses: states and operands that meet the hypotheses of the statements -/

theorem witness_StepRunsFront : ({ stopped with pending := [.lineHandover] } : State).pending = .lineHandover :: [] ∧
    running.pending = [] := ⟨rfl, rfl⟩

theorem witness_ByteOutsideFrame : (running.atRest ∧ running.lnk.rx = .hunting) ∧
    ((withLnk running fun l => { l with rx := .held }).atRest ∧ (withLnk running fun l => { l with rx := .held }).lnk.rx = .held) :=
  ⟨⟨running_rests, rfl⟩, atRest_of_free _ (by decide +kernel), rfl⟩

/-- A wrong second CHECK byte with room in the reply buffer and without; the gap timer in HEADER with one byte, with two bytes, in
PAYLOAD and in CHECK; and a full buffer with a held REJECT and STOP's reply. -/
theorem witness_FramesRejected :
    ((checking 3).serving ∧ (checking 4).serving ∧ (checking 3).lnk.rx = .check 1 7 [] 0x77E4#16 (some 0x77#8) ∧
      [0x77#8, 0xE5#8] ≠ checkBytes 0x77E4#16 ∧ (checking 3).lnk.replies.length < 4 ∧ 4 ≤ (checking 4).lnk.replies.length) ∧
    (∀ rx, (withLnk running fun l => { l with rx := rx, gapExpiry := some 2000 }).lnk.gapExpiry = some 2000) ∧
    ((withLnk running fun l => { l with rx := .header [1] 0, gapExpiry := some 2000 }).serving ∧ ([1#8] : List Byte).length < 2) ∧
    ((withLnk running fun l => { l with rx := .header [1, 7] 0, gapExpiry := some 2000 }).serving) ∧
    ((withLnk running fun l => { l with rx := .payload 1 7 3 [] 0, gapExpiry := some 2000 }).serving) ∧ (checking 3).serving ∧
    (fullOfReplies.hold = none ∧ fullOfReplies.nothingDue ∧ Outgoing.isResetDone fullOfReplies.lnk.tx = false ∧
      fullOfReplies.lnk.replies = { tag := 9, body := .done .ident } :: replies 3 ∧ (replies 3).length = 3 ∧
      fullOfReplies.lnk.rejectHold = some { tag := 26, body := .reject .queueFull } ∧
      fullOfReplies.lnk.inProgress = some { tag := 21, reply := some { tag := 21, body := .done (.stop .stopped .request) } }) :=
  ⟨⟨serving_of_free _ (by decide +kernel), serving_of_free _ (by decide +kernel), by decide +kernel⟩, fun _ => rfl,
   ⟨serving_of_free _ (by decide +kernel), by decide⟩, serving_of_free _ (by decide +kernel),
   serving_of_free _ (by decide +kernel), serving_of_free _ (by decide +kernel),
   rfl, nothingDue_of_calm _ (by decide +kernel), rfl, rfl, rfl, rfl, rfl⟩

theorem witness_FrameBytesAreTheRow : stopped.listening ∧ (List.replicate 1024 (0 : Byte)).length ≤ 1024 :=
  ⟨stopped_listens, by decide +kernel⟩

theorem witness_EveryRequestAnsweredOnce : stopped.listening ∧ running.listening ∧ faulted.listening ∧
    ((sending 3 0).listening ∧ (sending 3 0).lnk.tx ≠ none) :=
  ⟨stopped_listens, running_listens, faulted_listens, listening_of_open _ (by decide +kernel), by decide +kernel⟩

theorem witness_UnknownKindRefused : running.listening ∧ ([1, 2] : List Byte).length ≤ 1024 ∧
    (0x55 : Byte) ∉ ([0x01, 0x02, 0x03, 0x04, 0x08, 0x09, 0x0A, 0x10, 0x11, 0x12, 0x18, 0x19, 0x1A, 0x20, 0x21, 0x22, 0x28, 0x29, 0x30,
      0x31, 0x32, 0x38, 0x39, 0x3A, 0x3B] : List Byte) := ⟨running_listens, by decide⟩

theorem witness_GenericChecks :
    (faulted.listening ∧ faulted.ict.state = .faulted ∧
      Request.setLane ∉ [Request.ident, .readStatus, .reset, .clearFault, .loadTable]) ∧
    (running.listening ∧ running.ict.state ∈ [Inspection.calibrating, .running, .stopping] ∧
      Request.loadTable ∈ [Request.setHead, .setEncoder, .setSpot, .setStreak, .setClips, .calibrate, .start, .loadTable]) ∧
    (stopped.listening ∧ stopped.ict.state = .stopped ∧ ([1] : List Byte).length ≠ 36 ∧
      (([0, 1] : List Byte).head? = some 0 ∧ ([0, 1] : List Byte).length ≠ 258)) :=
  ⟨⟨faulted_listens, by decide +kernel⟩, ⟨running_listens, by decide +kernel⟩, stopped_listens, by decide +kernel⟩

theorem witness_IdentAnswered : faulted.listening := faulted_listens

theorem witness_ReadStatusAnswered : running.listening := running_listens

/-- A transmitter in SENDING, and an IDLE one with a reply, a report, both, and both with a RESET pending. -/
theorem witness_FrameBoundarySends :
    ((sending 2 0).serving ∧ Outgoing.isResetDone (sending 2 0).lnk.tx = false ∧ (sending 2 0).lnk.replies ≠ []) ∧
    ((sending 0 0).serving ∧ (sending 0 0).lnk.replies = [] ∧
      (sending 0 0).rpq.offered = some { report := .web none 0, priority := 1, entry := 1, close := none } ∧
      (sending 0 0).rpq.tally = 0) ∧
    ((sending 0 4).serving ∧ (sending 0 4).rpq.offered ≠ none ∧ 0 < (sending 0 4).rpq.tally) ∧
    (running.serving ∧ running.lnk.replies = [] ∧ running.rpq.queue = []) ∧
    (let idle (n k : Nat) : State :=
       withRpq (withLnk running fun l => { l with replies := replies n }) fun q => { q with queue := (fullQueue 1).take k }
     ((sending 2 0).lnk.tx ≠ none ∧ (idle 0 0).lnk.tx = none) ∧
     ((idle 2 0).lnk.replies = { tag := 9, body := .done .ident } :: replies 1 ∧ (idle 2 0).rpq.queue = []) ∧
     ((idle 0 3).lnk.replies = [] ∧ (idle 0 3).rpq.offered ≠ none) ∧
     ((idle 2 3).lnk.replies ≠ [] ∧ (idle 2 3).rpq.offered ≠ none ∧ (idle 2 3).lnk.resetPending = false) ∧
     (withLnk (idle 2 3) fun l => { l with resetPending := true }).lnk.resetPending = true) :=
  ⟨⟨serving_of_free _ (by decide +kernel), by decide +kernel⟩, ⟨serving_of_free _ (by decide +kernel), by decide +kernel⟩,
   ⟨serving_of_free _ (by decide +kernel), by decide +kernel⟩, ⟨serving_of_free _ (by decide +kernel), rfl, rfl⟩,
   by decide +kernel⟩

theorem witness_OfferIsBest : (sending 0 0).rpq.queue ≠ [] ∧ (sending 0 0).rpq.offered ≠ none := by decide +kernel

/-- The new report has a greater priority than the full queue's, and an equal one; a report of priority 0; and the notice of a held
track's close, of another close, and none. -/
theorem witness_FullQueueLosesOne :
    (128 ≤ (fullQueue 0).length ∧ ({ Rpq.reset with queue := fullQueue 0 } : Rpq).queue = fullQueue 0 ∧
      0 < ({ Rpq.reset with queue := fullQueue 0 } : Rpq).priorityOf .web ∧
      ({ Rpq.reset with queue := fullQueue 1 } : Rpq).priorityOf .web = 1) ∧
    (let s := withRpq (withHeld []) fun q => { q with priority := q.priority.set ReportKind.web.index 0 }
     s.rpq.priorityOf .web = 0 ∧
      (s.rpq.take (.web none 3) (some { id := 5, serial := 0 })).2 = some { id := 5, serial := 0 } ∧
      (s.track 5).wrongWords = [] ∧ (s.track 5).state = .held ∧ (s.track 5).serial = 0 ∧
      (s.rpq.take (.web none 3) (some { id := 5, serial := 8 })).2 = some { id := 5, serial := 8 } ∧ (s.track 5).serial ≠ 8 ∧
      (s.rpq.take (.web none 3) none).2 = none) := by decide +kernel

theorem witness_ResetRequest : stopped.listening ∧
    ((withLnk running fun l => { l with rx := .held, resetPending := true, tx := some (.reply { tag := 8, body := .done .reset }) }).hold
      = none) := ⟨stopped_listens, rfl⟩

theorem witness_PowerOnAndPinReset : running.hold = none ∧ ({ running with hold := some .pin } : State).hold = some .pin ∧
    ResetCause.pin ≠ .request ∧ Instr.lineHandover ∉ [Instr.powerOnReset, .pinResetAssert, .pinResetEnd] := by decide +kernel

/-- A part without an enabled head, loaded tables or an armed lane is not ready; one that has them all is. -/
theorem witness_Start :
    (State.reset.listening ∧ State.reset.ict.state = .stopped ∧ (∀ h < 4, (State.reset.las.head h).settings.enabled = false) ∧
      ¬∃ l ∈ State.reset.lnc, l.state ≠ .disarmed ∨ l.change = .arm) ∧
    (stopped.listening ∧ stopped.room .state ∧ stopped.ict.state = .stopped ∧
      ¬(∀ h < 4, (stopped.las.head h).settings.enabled = false) ∧
      (∀ p < 32, p * 256 < stopped.las.width → p ∈ stopped.ffc.dark.loaded ∧ p ∈ stopped.ffc.gain.loaded) ∧
      ∃ l ∈ stopped.lnc, l.state ≠ .disarmed ∨ l.change = .arm) :=
  ⟨⟨listening_of_open _ (by decide +kernel), by decide +kernel⟩, stopped_listens, room_of _ _ (by decide +kernel),
   by decide +kernel⟩

theorem witness_Stop :
    (stopped.listening ∧ stopped.ict.state = .stopped) ∧
    ((inStage running (wholeLine .run) true false false).listening ∧
      (inStage running (wholeLine .run) true false false).room .state ∧
      (inStage running (wholeLine .run) true false false).las.processing ≠ none) ∧
    (running.listening ∧ running.ict.state = .running ∧ running.las.processing = none ∧
      (∀ id < 64, (running.track id).state ≠ .open) ∧ running.rpq.queue.length + 2 ≤ 128 ∧ 0 < running.rpq.priorityOf .state) ∧
    ((calibrating 2 1 .notStarted .idle).listening ∧ (calibrating 2 1 .notStarted .idle).ict.state = .calibrating ∧
      (calibrating 2 1 .notStarted .idle).ffc.active = true ∧ (calibrating 2 1 .notStarted .idle).ffc.record ≠ none ∧
      0 < (calibrating 2 1 .notStarted .idle).rpq.priorityOf .calibration) ∧
    (let s := withTrack running (spotTrack .open 9)
     let u := State.withReport
       { s with ict := { s.ict with state := .stopping, lastStop := .request, limitPending := false } }
       (.state .stopping .request)
     s.listening ∧ s.room .state ∧ u.stopRuns ∧ s.ict.state = .running ∧ s.las.processing = none ∧
      (s.track 5).state = .open) :=
  ⟨⟨stopped_listens, rfl⟩,
   ⟨listening_of_open _ (by decide +kernel), room_of _ _ (by decide +kernel), by decide +kernel⟩,
   ⟨running_listens, by decide +kernel⟩, ⟨listening_of_open _ (by decide +kernel), by decide +kernel⟩,
   listening_of_open _ (by decide +kernel), room_of _ _ (by decide +kernel), runs_of _ (by decide +kernel), by decide +kernel⟩

theorem witness_ClearFault : (running.listening ∧ running.ict.state ≠ .faulted) ∧
    (faulted.listening ∧ faulted.room .state ∧ faulted.ict.state = .faulted) ∧
    (owing (.receiving 0 3 0)).las.slots.length = 8 ∧ (owing (.receiving 0 3 0)).las.heads.length = 4 ∧
    ((owing (.receiving 0 3 0)).las.head 0).delivery = .receiving 0 3 0 ∧
    ((owing (.waiting (.slot 0))).las.head 0).delivery = .waiting (.slot 0) :=
  ⟨⟨running_listens, by decide +kernel⟩, ⟨faulted_listens, room_of _ _ (by decide +kernel), rfl⟩, by decide +kernel⟩

theorem witness_SetFaultAction : running.listening ∧ running.ict.state ≠ .faulted ∧ 8 < 9 ∧ 8 ≤ 8 ∧ 3 < 4 ∧
    (8, Source.memoryCorrected) ∈ [(7, Source.referenceLow), (8, .memoryCorrected)] ∧
    (3, Action.stop) ∈ [(2, Action.mark), (3, .stop)] := ⟨running_listens, by decide +kernel⟩

theorem witness_OccurrenceLadder : running.takes .headLate ∧
    (let s := { running with ict := { running.ict with actions := running.ict.actions.set 1 .stop } }
     s.ict.action .headLate = .stop ∧ s.ict.state = .running ∧ s.rpq.queue.length + 2 ≤ 128 ∧
      0 < s.rpq.priorityOf .fault ∧ 0 < s.rpq.priorityOf .state) :=
  ⟨takes_of _ _ (by decide +kernel), by decide +kernel⟩

theorem witness_MemoryFatalDropsAll :
    (withTrack faulted (spotTrack .held 9)).ict.state = .faulted ∧
    (let s := withTrack running (spotTrack .open 9)
     s.ict.state ≠ .faulted ∧ s.ffc.active = false ∧ s.lnk.inProgress = none ∧ s.las.processing = none ∧
      s.rpq.queue.length + 2 ≤ 128 ∧ 0 < s.rpq.priorityOf .fault ∧ 0 < s.rpq.priorityOf .state) ∧
    (let s := inStage running (wholeLine .run) true false false
     s.ict.state ≠ .faulted ∧ s.las.processing = some { slot := 0, lnc := true, spd := false, sti := false } ∧
      0 < s.las.slots.length) := by decide +kernel

theorem witness_EventsSettle : exec .frameBoundary (sending 2 0) = .next (after (exec .frameBoundary (sending 2 0))) ∧
    (after (exec .frameBoundary (sending 2 0))).hold = none ∧
    exec .pinResetEnd { running with hold := some .pin } = .next (after (exec .pinResetEnd { running with hold := some .pin })) ∧
    (after (exec .pinResetEnd { running with hold := some .pin })).hold = none :=
  ⟨next_of _ (by decide +kernel), by decide +kernel, next_of _ (by decide +kernel), by decide +kernel⟩

/-- The last two are a reverse count and a forward count that pays back the lag; then a forward count one short of the pitch. -/
theorem witness_EncoderCounts :
    ((calibrating 2 1 .notStarted .idle).atRest ∧ (calibrating 2 1 .notStarted .idle).ict.state = .calibrating) ∧
    (let s := withEnc running fun e => { e with lastEdge := some 1000, settings := { e.settings with glitchWindow := 6 } }
     s.atRest ∧ s.takes .encoderGlitch ∧ s.edgeIgnored 5 ∧ s.ict.state ≠ .calibrating) ∧
    (running.atRest ∧ ¬running.edgeIgnored 5 ∧ running.pairAfter .a false = (running.enc.levelA, running.enc.levelB)) ∧
    running.edgeReverse .b true 5 ∧
    (let s := withEnc running fun e => { e with lag := 1 }
     s.atRest ∧ s.edgeForward .a true 5 ∧ 0 < s.enc.lag) ∧
    (let s := withEnc running fun e => { e with highWater := 6 }
     s.atRest ∧ s.edgeForward .a true 5 ∧ s.enc.lag = 0 ∧ s.enc.highWater + 1 < s.enc.settings.countsPerLine) :=
  ⟨⟨atRest_of_free _ (by decide +kernel), rfl⟩,
   ⟨atRest_of_free _ (by decide +kernel), takes_of _ _ (by decide +kernel), ⟨1000, rfl, by decide +kernel⟩, by decide +kernel⟩,
   ⟨running_rests, not_ignored _ _ rfl, rfl⟩, reverse_of _ _ _ _ (by decide +kernel),
   ⟨atRest_of_free _ (by decide +kernel), forward_of _ _ _ _ (by decide +kernel), by decide +kernel⟩,
   atRest_of_free _ (by decide +kernel), forward_of _ _ _ _ (by decide +kernel), by decide +kernel⟩

/-- A line in STOPPED; the line before the last, with the web halted; the last line with a head that discards; a run past the line
limit; and a line that finds no FREE slot, of an ordinary number and of the last. -/
theorem witness_LineIssued :
    (stopped.atRest ∧ stopped.edgeForward .a true 5 ∧ stopped.enc.lag = 0 ∧
      stopped.enc.settings.countsPerLine ≤ stopped.enc.highWater + 1 ∧ stopped.ict.state ≠ .running) ∧
    (let s := withEnc (withSlot running (wholeLine .run)) fun e => { e with web := .halted, nextLine := 1099511627774 }
     s.atRest ∧ s.edgeForward .a true 5 ∧ s.room .web ∧ s.freeSlotIs 1 ∧ s.headsReady ∧ s.enc.lag = 0 ∧
      s.enc.settings.countsPerLine ≤ s.enc.highWater + 1 ∧ s.ict.state = .running ∧ s.enc.lineLimit = false ∧
      s.enc.nextLine ≤ 1099511627775) ∧
    (let s := withEnc (part .running .seeking (.discarding none)) fun e => { e with nextLine := 1099511627775 }
     s.atRest ∧ s.edgeForward .a true 5 ∧ s.freeSlotIs 0 ∧ s.headsReady ∧ s.enc.lag = 0 ∧
      s.enc.settings.countsPerLine ≤ s.enc.highWater + 1 ∧ s.ict.state = .running ∧ s.enc.lineLimit = false ∧
      s.enc.nextLine = 1099511627775) ∧
    (let s := withEnc running fun e => { e with lineLimit := true }
     s.atRest ∧ s.edgeForward .a true 5 ∧ s.enc.lag = 0 ∧ s.enc.settings.countsPerLine ≤ s.enc.highWater + 1 ∧
      s.ict.state = .running ∧ s.enc.lineLimit = true) ∧
    (∀ n ∈ [17, 1099511627775],
      let s := withEnc (inStage (crowded running .run) (wholeLine .run) true false false) fun e => { e with nextLine := n }
      s.atRest ∧ s.edgeForward .a true 5 ∧ s.headsReady ∧ s.enc.lag = 0 ∧
        s.enc.settings.countsPerLine ≤ s.enc.highWater + 1 ∧ s.ict.state = .running ∧ s.enc.web ≠ .halted ∧
        s.enc.lineLimit = false ∧ s.enc.nextLine = n ∧ (∀ j < 8, (s.las.slot j).state ≠ .free) ∧ s.las.processing ≠ none ∧
        (∀ t : State, t.ict = s.ict → t.rpq = s.rpq → t.takes .lineOverrun) ∧
        (s.withOccurrence .lineOverrun none none).room .state) := by
  refine ⟨⟨stopped_rests, forward_of _ _ _ _ (by decide +kernel), by decide +kernel⟩,
    ⟨atRest_of_free _ (by decide +kernel), forward_of _ _ _ _ (by decide +kernel), room_of _ _ (by decide +kernel),
      slot_of _ _ (by decide +kernel), ready_of _ (by decide +kernel), by decide +kernel⟩,
    ⟨atRest_of_free _ (by decide +kernel), forward_of _ _ _ _ (by decide +kernel), slot_of _ _ (by decide +kernel),
      ready_of _ (by decide +kernel), by decide +kernel⟩,
    ⟨atRest_of_free _ (by decide +kernel), forward_of _ _ _ _ (by decide +kernel), by decide +kernel⟩, fun n hn => ?_⟩
  simp only [List.mem_cons, List.not_mem_nil, or_false] at hn
  rcases hn with rfl | rfl <;>
    exact ⟨atRest_of_free _ (by decide +kernel), forward_of _ _ _ _ (by decide +kernel), ready_of _ (by decide +kernel),
      rfl, by decide, rfl, by decide, rfl, rfl, by decide +kernel, by decide,
      fun _ hi hr => takes_congr hi hr (takes_of _ _ (by decide +kernel)), room_of _ _ (by decide +kernel)⟩

theorem witness_StandstillExpiry : (stopped.atRest ∧ stopped.enc.standstillExpiry = some 9000 ∧ stopped.ict.state ≠ .running) ∧
    (running.atRest ∧ running.room .web ∧ running.enc.standstillExpiry = some 9000 ∧ running.ict.state = .running) :=
  ⟨⟨stopped_rests, by decide +kernel⟩, running_rests, room_of _ _ (by decide +kernel), rfl, rfl⟩

theorem witness_SpliceInput : running.atRest ∧ stopped.atRest := ⟨running_rests, stopped_rests⟩

theorem witness_SpliceRequest : (running.listening ∧ running.ict.state = .running) ∧
    (stopped.listening ∧ stopped.ict.state = .stopped) ∧ (faulted.listening ∧ faulted.ict.state = .faulted) :=
  ⟨⟨running_listens, rfl⟩, ⟨stopped_listens, rfl⟩, faulted_listens, rfl⟩

/-- The four cases of a refused setting request. -/
theorem witness_refusedAsStated : (faulted.listening ∧ faulted.ict.state = .faulted) ∧
    (running.listening ∧ running.ict.state = .running) ∧ (stopped.listening ∧ stopped.ict.state = .stopped) ∧
    ([] : List Byte).length ≠ Request.setEncoder.fieldWidths.sum :=
  ⟨⟨faulted_listens, rfl⟩, ⟨running_listens, rfl⟩, ⟨stopped_listens, rfl⟩, by decide +kernel⟩

theorem witness_SetEncoder : stopped.listening ∧ stopped.ict.state = .stopped ∧
    fitsWidths Request.setEncoder.fieldWidths [4096, 255, 2001, 0, 2] ∧
    firstBad [decide (1 ≤ 4096 ∧ 4096 ≤ 4096), decide (255 ≤ 255), decide (1 ≤ 2001 ∧ 2001 ≤ 2000)] 2 :=
  ⟨stopped_listens, rfl, fits_of _ _ (by decide +kernel), bad_of _ _ (by decide)⟩

theorem witness_CalibrationTimer :
    (let s := calibrating 2 1 .notStarted .idle
     s.atRest ∧ s.freeSlotIs 0 ∧ s.headsReady ∧ s.ict.state = .calibrating ∧ s.ffc.active = true ∧ s.ffc.record ≠ none ∧
      s.enc.calExpiry = some 3000 ∧ 1 < s.enc.calRemaining) ∧
    (let s := calibrating 1 3 .notStarted (.waiting .dropped)
     s.atRest ∧ s.freeSlotIs 0 ∧ s.headsReady ∧ s.ict.state = .calibrating ∧ s.ffc.active = true ∧
      s.enc.calExpiry = some 3000 ∧ s.enc.calRemaining = 1) ∧
    (∀ n ∈ [1, 2],
      let s := crowded (calibrating n 1 .notStarted (.discarding (some .dropped))) .calibration
      s.atRest ∧ s.headsReady ∧ s.takes .lineOverrun ∧ s.ict.state = .calibrating ∧ s.ffc.active = true ∧
        s.enc.calExpiry = some 3000 ∧ s.enc.calRemaining = n ∧ (∀ j < 8, (s.las.slot j).state ≠ .free) ∧
        ∃ sl ∈ s.las.slots, sl.kind = .calibration ∧ sl.state ≠ .free) := by
  refine ⟨⟨atRest_of_free _ (by decide +kernel), slot_of _ _ (by decide +kernel), ready_of _ (by decide +kernel), by decide +kernel⟩,
   ⟨atRest_of_free _ (by decide +kernel), slot_of _ _ (by decide +kernel), ready_of _ (by decide +kernel), by decide +kernel⟩,
   fun n hn => ?_⟩
  simp only [List.mem_cons, List.not_mem_nil, or_false] at hn
  rcases hn with rfl | rfl <;>
    exact ⟨atRest_of_free _ (by decide +kernel), ready_of _ (by decide +kernel), takes_of _ _ (by decide +kernel),
      by decide +kernel⟩

/-- A COMPLETE slot; no line taken and one slot ASSEMBLING; one line taken and one slot ASSEMBLING. -/
theorem witness_CloseOutWait :
    (let s := withSlot (calibrating 0 1 (.running 5000) .idle) (wholeLine .calibration)
     s.atRest ∧ s.ffc.active = true ∧ s.ffc.record.map (·.closeOut) = some (.running 5000) ∧
      ∃ sl ∈ s.las.slots, sl.state = .complete ∧ sl.kind = .calibration) ∧
    (let s := withSlot (calibrating 0 0 (.running 5000) (.waiting (.slot 0))) (owedLine .calibration)
     s.atRest ∧ s.ffc.active = true ∧ s.ffc.record.map (·.closeOut) = some (.running 5000) ∧ s.ict.state = .calibrating ∧
      s.enc.calRemaining = 0 ∧ s.las.processing = none ∧
      (∀ sl ∈ s.las.slots, ¬(sl.state = .complete ∧ sl.kind = .calibration)) ∧ s.ffc.record.map (·.taken) = some 0 ∧
      s.ffc.record.map (·.missing) = some [] ∧ s.las.enabledHeads ≠ [] ∧ s.rpq.queue.length + 2 ≤ 128 ∧
      0 < s.rpq.priorityOf .calibration ∧ 0 < s.rpq.priorityOf .state) ∧
    (let s := withSlot (calibrating 0 1 (.running 5000) (.waiting (.slot 0))) (owedLine .calibration)
     s.atRest ∧ s.ffc.active = true ∧ s.ffc.record.map (·.closeOut) = some (.running 5000) ∧ s.ict.state = .calibrating ∧
      s.enc.calRemaining = 0 ∧ s.las.processing = none ∧
      (∀ sl ∈ s.las.slots, ¬(sl.state = .complete ∧ sl.kind = .calibration)) ∧ s.lnk.inProgress = none ∧
      s.ffc.record.map (·.taken) = some 1) :=
  ⟨⟨atRest_of_free _ (by decide +kernel), by decide +kernel⟩, ⟨atRest_of_free _ (by decide +kernel), by decide +kernel⟩,
   atRest_of_free _ (by decide +kernel), by decide +kernel⟩

/-- A disabled head, an unsolicited line, a line for a slot, one for a dropped line, and one inside a delivery. -/
theorem witness_HeadLineStart :
    (running.atRest ∧ (running.las.head 1).settings.enabled = false ∧ (running.las.head 0).settings.enabled = true) ∧
    (running.takes .headUnsolicited ∧ (running.las.head 0).delivery = .idle) ∧
    ((owing (.waiting (.slot 0))).atRest ∧ ((owing (.waiting (.slot 0))).las.head 0).delivery = .waiting (.slot 0)) ∧
    ((owing (.discarding (some .dropped))).atRest ∧
      ((owing (.discarding (some .dropped))).las.head 0).delivery = .discarding (some .dropped)) ∧
    ((owing (.receiving 0 20 0)).atRest ∧ ((owing (.receiving 0 20 0)).las.head 0).delivery = .receiving 0 20 0) :=
  ⟨⟨running_rests, by decide +kernel⟩, ⟨takes_of _ _ (by decide +kernel), rfl⟩,
   ⟨atRest_of_free _ (by decide +kernel), rfl⟩, ⟨atRest_of_free _ (by decide +kernel), rfl⟩,
   atRest_of_free _ (by decide +kernel), rfl⟩

/-- The last pixel of the reference window, the first and the last of the used window, and one too many. -/
theorem witness_HeadRawLevel :
    ∀ p ∈ [3, 8, 47, 2047, 2048], (receiving 4 p).atRest ∧ ((receiving 4 p).las.head 0).settings.enabled = true ∧
      ((receiving 4 p).las.head 0).delivery = .receiving 0 p 7 ∧ Sparse.wf 0 ((receiving 4 p).las.slot 0).raw = true := by
  intro p _
  exact ⟨atRest_of_free _ rfl, rfl, rfl, rfl⟩

/-- Head 0 has received its whole reference window, with a mean of 2, as its lamp record stands. -/
def lamp (low : Bool) (set clear pixels : Nat) : State :=
  withLas (receiving 4 pixels) fun l =>
    { l with
      lampSet := set, lampClear := clear
      heads := l.heads.set 0 { someHead 4 (.receiving 0 pixels 7) with lowLive := low } }

/-- A whole line and a short one without a reference window, one that ends inside its reference window, the lamp that fails, comes
back and stays as it is, on a whole line and on a short one, and the three other states. -/
theorem witness_HeadLineEnd :
    ((receiving 0 48).atRest ∧ ((receiving 0 48).las.head 0).settings.refCount = 0 ∧ 8 + 40 ≤ 48) ∧
    ((receiving 0 47).atRest ∧ (receiving 0 47).takes .headShort ∧ 47 < 8 + 40) ∧
    ((receiving 4 3).atRest ∧ (receiving 4 3).takes .headShort ∧ 3 < 0 + 4) ∧
    ((lamp false 3 4 48).atRest ∧ (lamp false 3 4 48).takes .referenceLow ∧ ((lamp false 3 4 48).las.slot 0).kind = .run ∧
      ((lamp false 3 4 48).las.head 0).lowLive = false ∧ (7 + 4 / 2) / 4 < (lamp false 3 4 48).las.lampSet) ∧
    ((lamp false 3 4 47).atRest ∧ (lamp false 3 4 47).takes .headShort ∧
      ((lamp false 3 4 47).withOccurrence .headShort (some 0) none).takes .referenceLow) ∧
    ((lamp true 1 2 48).atRest ∧ (lamp true 1 2 48).room .fault ∧ (lamp true 1 2 48).ict.action .referenceLow ≠ .ignore ∧
      ((lamp true 1 2 48).las.head 0).lowLive = true ∧ (lamp true 1 2 48).las.lampClear ≤ (7 + 4 / 2) / 4) ∧
    (let s := withIct (lamp true 1 2 48) fun i => { i with actions := i.actions.set Source.referenceLow.code .ignore }
     s.atRest ∧ s.ict.action .referenceLow = .ignore) ∧
    ((lamp false 2 3 48).atRest ∧ (lamp false 2 3 48).las.lampSet ≤ (7 + 4 / 2) / 4 ∧
      (lamp true 2 3 48).atRest ∧ (7 + 4 / 2) / 4 < (lamp true 2 3 48).las.lampClear) ∧
    ((owing (.discarding none)).atRest ∧ (owing (.discarding (some .dropped))).atRest ∧ running.atRest ∧
      (running.las.head 0).delivery = .idle) :=
  ⟨⟨atRest_of_free _ (by decide +kernel), by decide +kernel⟩,
   ⟨atRest_of_free _ (by decide +kernel), takes_of _ _ (by decide +kernel), by decide⟩,
   ⟨atRest_of_free _ (by decide +kernel), takes_of _ _ (by decide +kernel), by decide⟩,
   ⟨atRest_of_free _ (by decide +kernel), takes_of _ _ (by decide +kernel), by decide +kernel⟩,
   ⟨atRest_of_free _ (by decide +kernel), takes_of _ _ (by decide +kernel), takes_of _ _ (by decide +kernel)⟩,
   ⟨atRest_of_free _ (by decide +kernel), room_of _ _ (by decide +kernel), by decide +kernel⟩,
   ⟨atRest_of_free _ (by decide +kernel), by decide +kernel⟩,
   ⟨atRest_of_free _ (by decide +kernel), by decide +kernel, atRest_of_free _ (by decide +kernel), by decide +kernel⟩,
   atRest_of_free _ (by decide +kernel), atRest_of_free _ (by decide +kernel), running_rests, rfl⟩

theorem witness_HeadLate :
    ∀ d ∈ [Delivery.waiting (.slot 0), .receiving 0 48 5, .discarding (some (.slot 0))],
      let s := withLas (owing d) fun l => { l with slots := l.slots.set 7 { owedLine .run with number := 18, claim := 2 } }
      s.takes .headLate ∧ (s.las.slot 7).state = .assembling ∧ s.las.heads.length = 4 ∧ s.las.slots.length = 8 ∧
        (s.las.head 0).delivery = d := by
  intro d _
  exact ⟨takes_of _ _ rfl, rfl, rfl, rfl, rfl⟩

/-- Head settings at the ends of their ranges, and a reference window of 4 pixels next to the used window. -/
def newHeads : List HeadSettings :=
  [{ enabled := true, first := 4, count := 2044, refFirst := 0, refCount := 4 }, HeadSettings.default, HeadSettings.default,
   { enabled := false, first := 2047, count := 1, refFirst := 1983, refCount := 64 }]

/-- Heads too narrow for lane 3, and all heads off. -/
def narrowHeads (on : Bool) : List HeadSettings :=
  [{ enabled := on, first := 0, count := 37, refFirst := 0, refCount := 0 }, HeadSettings.default, HeadSettings.default,
   HeadSettings.default]

def headsLegal (heads : List HeadSettings) : Bool :=
  decide (heads.length = 4) && heads.all fun c => decide (1 ≤ c.count ∧ c.first + c.count ≤ 2048 ∧ c.refFirst ≤ 2047 ∧
    (c.refCount = 0 ∨ (4 ≤ c.refCount ∧ c.refCount ≤ 64 ∧ c.refFirst + c.refCount ≤ 2048 ∧
      (c.refFirst + c.refCount ≤ c.first ∨ c.first + c.count ≤ c.refFirst))))

def lanesFitIn (s : State) (heads : List HeadSettings) : Bool :=
  s.lnc.all fun l => match l.settings with
    | some c => decide (c.last < enabledWidth heads)
    | none => true

theorem witness_SetHead :
    (stopped.listening ∧ stopped.ict.state = .stopped ∧ headsLegal newHeads = true ∧ lanesFitIn stopped newHeads = true ∧
      stopped.las.lowHeads = [] ∧ stopped.las.heads.length = 4) ∧
    (let s := withLas stopped fun l => { l with heads := l.heads.set 0 { someHead 4 .idle with lowLive := true } }
     s.listening ∧ s.room .fault ∧ s.las.lowHeads = [0] ∧ lanesFitIn s newHeads = true ∧
      (s.las.head 0).settings.refCount = 4 ∧ s.ict.action .referenceLow ≠ .ignore) ∧
    (headsLegal (narrowHeads true) = true ∧ lanesFitIn stopped (narrowHeads true) = false ∧
      headsLegal (narrowHeads false) = true ∧ lanesFitIn stopped (narrowHeads false) = false) ∧
    fitsWidths Request.setHead.fieldWidths ([1022, 1023] ++ (List.replicate 4 [1, 8, 40, 0, 3]).flatten) ∧
    firstBad [decide (1022 ≤ 1022), decide (1022 < 1023 ∧ 1023 ≤ 1023), true, true, true, true, decide (4 ≤ 3)] 6 :=
  ⟨⟨stopped_listens, by decide +kernel⟩,
   ⟨listening_of_open _ (by decide +kernel), room_of _ _ (by decide +kernel), by decide +kernel⟩,
   by decide +kernel, fits_of _ _ (by decide +kernel), bad_of _ _ (by decide)⟩

/-- A line to hand over, and the four ways in which nothing happens. -/
theorem witness_LineHandover :
    (let s := withSlot running (wholeLine .run)
     s.atRest ∧ s.tablesGood ∧ s.ict.state = .running ∧ s.las.processing = none ∧ (s.las.slot 0).state = .complete ∧
      (s.las.slot 0).kind = .run ∧
      ∀ j < 8, (s.las.slot j).state = .complete → (s.las.slot j).kind = .run →
        (s.las.slot 0).number ≤ (s.las.slot j).number ∧ ((s.las.slot 0).number = (s.las.slot j).number → 0 ≤ j)) ∧
    (stopped.atRest ∧ running.atRest ∧ ∀ j < 8, (running.las.slot j).state ≠ .complete) ∧
    (let s := withWord (withSlot running (wholeLine .run)) .dark 39 9 .single
     s.atRest ∧ s.takes .memoryCorrected ∧ s.oneWordWrong (wholeLine .run) .dark 39 .single ∧ s.memoryWf = true) ∧
    (let s := withWord (withSlot running (wholeLine .run)) .gain 0 9 .double
     s.atRest ∧ s.oneWordWrong (wholeLine .run) .gain 0 .double ∧ s.lnk.inProgress = none) := by
  refine ⟨⟨atRest_of_free _ (by decide +kernel), by unfold State.tablesGood; decide +kernel, by decide +kernel⟩,
   ⟨stopped_rests, running_rests, by decide +kernel⟩,
   ⟨atRest_of_free _ (by decide +kernel), takes_of _ _ (by decide +kernel), ⟨by decide +kernel, ?_, rfl, ?_⟩, by decide +kernel⟩,
   atRest_of_free _ (by decide +kernel), ⟨by decide +kernel, ?_, rfl, ?_⟩, rfl⟩
  · intro lo hi h; simp [wholeLine, Slot.blank] at h
  · intro t c hc h
    have all : ∀ c < 40, ∀ t ∈ [TableId.dark, .gain], (t ≠ .dark ∨ c ≠ 39) →
        ((withWord (withSlot running (wholeLine .run)) .dark 39 9 .single).ffc.word t c).health = .good := by decide +kernel
    exact all c (lt_of_lt_of_eq hc (by decide +kernel)) t (by cases t <;> decide) h
  · intro lo hi h; simp [wholeLine, Slot.blank] at h
  · intro t c hc h
    have all : ∀ c < 40, ∀ t ∈ [TableId.dark, .gain], (t ≠ .gain ∨ c ≠ 0) →
        ((withWord (withSlot running (wholeLine .run)) .gain 0 9 .double).ffc.word t c).health = .good := by decide +kernel
    exact all c (lt_of_lt_of_eq hc (by decide +kernel)) t (by cases t <;> decide) h

/-- A line taken with lines still to issue; the last line; the last COMPLETE line with a slot still ASSEMBLING after the wait; and with
the wait running. -/
theorem witness_CalibrationLineTaken :
    ∀ c ∈ [(1, CloseOut.notStarted, Slot.blank), (0, .notStarted, Slot.blank), (0, .expired, owedLine .calibration),
        (0, .running 5000, owedLine .calibration)],
      let s := withLas (withSlot (calibrating c.1 1 c.2.1 .idle) { wholeLine .calibration with noData := [some (38, 39), none, none, none] })
        fun l => { l with slots := l.slots.set 3 c.2.2 }
      s.atRest ∧ s.ict.state = .calibrating ∧ s.ffc.record.map (·.closeOut) = some c.2.1 ∧ s.las.processing = none ∧
        s.enc.calRemaining = c.1 ∧ s.ffc.active = true ∧ s.lnk.inProgress = none ∧
        s.las.slots.length = 8 ∧ (s.las.slot 0).state = .complete ∧ (s.las.slot 0).kind = .calibration ∧
        (∀ j < 8, (s.las.slot j).state = .complete → (s.las.slot j).kind = .calibration →
          (s.las.slot 0).claim ≤ (s.las.slot j).claim ∧ ((s.las.slot 0).claim = (s.las.slot j).claim → 0 ≤ j)) ∧
        ((∃ j < 8, j ≠ 0 ∧ (s.las.slot j).state = .assembling ∧ (s.las.slot j).kind = .calibration) ↔ c.2.2 ≠ Slot.blank) ∧
        (∀ j < 8, j ≠ 0 → (s.las.slot j).state ≠ .complete) ∧ Sparse.wf 0 s.ffc.sums = true := by
  intro c hc
  simp only [List.mem_cons, List.not_mem_nil, or_false] at hc
  rcases hc with rfl | rfl | rfl | rfl <;> exact ⟨atRest_of_free _ (by decide +kernel), by decide +kernel⟩

/-- The record of one calibration line, and the sums of its columns. -/
def measured (kind : CalKind) (mode : CalMode) : CalRecord :=
  { kind := kind, mode := mode, lines := 4, period := 200, target := 800, taken := 1, missing := [], closeOut := .expired }

def summed : State :=
  withFfc (calibrating 0 1 .expired .idle) fun f => { f with sums := (List.range 40).map fun k => (k, 7 * k + 1) }

/-- The record with head 0 missing. -/
def partly (kind : CalKind) (mode : CalMode) : CalRecord := { measured kind mode with missing := [0] }

/-- No head missing, one missing in the record, and one that a slot still ASSEMBLING owed; and an uncorrectable dark word. -/
theorem witness_DarkCalibrationWrites :
    (let s := calibrating 0 1 .expired .idle
     s.memoryWf = true ∧ s.ffc.record.map (fun r => (r.kind, r.mode, r.taken, r.missing)) = some (.dark, .apply, 1, []) ∧
      (∀ sl ∈ s.las.slots, sl.state ≠ .assembling)) ∧
    (summed.memoryWf = true ∧ summed.ict.state = .calibrating ∧ 0 < (measured .bright .apply).taken ∧
      (measured .bright .apply).missing = [] ∧ (partly .bright .apply).missing = [0] ∧ [0].Pairwise (· < ·) ∧
      (∀ sl ∈ summed.las.slots, sl.state ≠ .assembling) ∧ (∀ c < 40, (summed.ffc.word .dark c).health = .good) ∧
      summed.rpq.queue.length + 2 ≤ 128 ∧ 0 < summed.rpq.priorityOf .calibration ∧ 0 < summed.rpq.priorityOf .state) ∧
    (let s := withSlot summed (owedLine .calibration)
     s.memoryWf = true ∧ s.ict.state = .calibrating ∧ ∃ sl ∈ s.las.slots, sl.state = .assembling ∧ sl.kind = .calibration ∧
      sl.owed = [0]) ∧
    ((withWord summed .dark 39 3 .double).memoryWf = true ∧ ((withWord summed .dark 39 3 .double).ffc.word .dark 39).health = .double ∧
      ∀ c < 40, c ≠ 39 → ((withWord summed .dark 39 3 .double).ffc.word .dark c).health = .good) := by decide +kernel

theorem witness_LoadTable : stopped.listening ∧ faulted.listening ∧
    (stopped.ict.state = .stopped ∧ faulted.ict.state = .faulted ∧ stopped.memoryWf = true ∧
      (List.replicate 256 65535).length = 256 ∧ (∀ v ∈ List.replicate 256 65535, v < 256 ^ entryWidth .gain)) ∧
    1 < (2#8).toNat ∧ 31 < (32#8).toNat ∧ (List.replicate 512 (0 : Byte)).length = 512 :=
  ⟨stopped_listens, faulted_listens, by decide +kernel, by decide, by decide, by decide +kernel⟩

/-- A good page, and a page with one uncorrectable word and with one that has one wrong bit. -/
theorem witness_ReadTable :
    (running.listening ∧ running.ict.state ≠ .faulted ∧ ∀ i < 256, (running.ffc.word .gain (31 * 256 + i)).health = .good) ∧
    (let s := withWord running .dark 255 3 .double
     s.listening ∧ (s.ffc.word .dark 255).health = .double ∧
      ∀ i < 256, i ≠ 255 → (s.ffc.word .dark i).health = .good) ∧
    (let s := withWord running .gain 7936 3 .single
     s.listening ∧ s.takes .memoryCorrected ∧ s.memoryWf = true ∧ (s.ffc.word .gain (31 * 256 + 0)).health = .single ∧
      ∀ i < 256, i ≠ 0 → (s.ffc.word .gain (31 * 256 + i)).health = .good) :=
  ⟨⟨running_listens, by decide +kernel⟩, ⟨listening_of_open _ (by decide +kernel), by decide +kernel⟩,
   listening_of_open _ (by decide +kernel), takes_of _ _ (by decide +kernel), by decide +kernel⟩

/-- No head; a BRIGHT one without the dark table; and an accepted one. -/
theorem witness_Calibrate :
    (State.reset.listening ∧ State.reset.ict.state = .stopped ∧ ∀ h < 4, (State.reset.las.head h).settings.enabled = false) ∧
    (let s := { stopped with ffc := State.reset.ffc }
     s.listening ∧ s.ict.state = .stopped ∧ ¬(∀ h < 4, (s.las.head h).settings.enabled = false) ∧
      ∃ p < 32, p * 256 < s.las.width ∧ p ∉ s.ffc.dark.loaded) ∧
    (stopped.listening ∧ stopped.room .state ∧ ¬∃ p < 32, p * 256 < stopped.las.width ∧ p ∉ stopped.ffc.dark.loaded) ∧
    fitsWidths Request.calibrate.fieldWidths [1, 1, 1024, 49, 64] ∧
    firstBad [decide (1 ≤ 1), decide (1 ≤ 1), decide (1 ≤ 1024 ∧ 1024 ≤ 1024), decide (50 ≤ 49 ∧ 49 ≤ 10000)] 3 :=
  ⟨⟨listening_of_open _ (by decide +kernel), by decide +kernel⟩, ⟨listening_of_open _ (by decide +kernel), by decide +kernel⟩,
   ⟨stopped_listens, room_of _ _ (by decide +kernel), by decide +kernel⟩, fits_of _ _ (by decide +kernel), bad_of _ _ (by decide)⟩

/-- A lane of columns 20 to 39, the last of the width. -/
def newLane : LaneSettings :=
  { first := 38, last := 39, guard := 0, lo := 1021, hi := 1022, bare := 1023, enter := 255, leave := 1, leadGuard := 4095
    lengthMin := 0, lengthMax := 1 }

/-- A wide part, with head 0's count at 100. -/
def wide (s : State) : State :=
  withLas s fun l => { l with heads := l.heads.set 0 { someHead 0 .idle with settings := { (someHead 0 .idle).settings with count := 100 } } }

theorem witness_SetLane :
    (stopped.listening ∧ 15 < 16) ∧ (stopped.listening ∧ (lane stopped 3).state ≠ .disarmed) ∧
    (stopped.listening ∧ ¬((lane stopped 15).state ≠ .disarmed ∨ (lane stopped 15).change = .arm) ∧
      firstBad [decide (38 < 40), decide (38 ≤ 39 ∧ 39 < 40), decide (0 ≤ 255 ∧ 38 + 2 * 0 + 16 ≤ 39 + 1)] 2) ∧
    ((wide running).listening ∧ ¬((lane (wide running) 15).state ≠ .disarmed ∨ (lane (wide running) 15).change = .arm) ∧
      (wide running).las.width = 100 ∧ 38 + 2 * 0 + 16 ≤ 53 + 1 ∧
      (List.range 15).all (fun j => match (lane (wide running) j).settings with
        | some o => decide (o.last < 38)
        | none => true) = true) ∧
    fitsWidths [1, 2, 2, 1, 2, 2, 2, 1, 1, 2, 3, 3]
      [15, newLane.first, 53, newLane.guard, newLane.lo, newLane.hi, newLane.bare, newLane.enter, newLane.leave,
       newLane.leadGuard, newLane.lengthMin, newLane.lengthMax] :=
  ⟨⟨stopped_listens, by decide⟩, ⟨stopped_listens, by decide +kernel⟩,
   ⟨stopped_listens, by decide +kernel, bad_of _ _ (by decide)⟩,
   ⟨listening_of_open _ (by decide +kernel), by decide +kernel⟩, fits_of _ _ (by decide +kernel)⟩

theorem witness_ClearLane : (faulted.listening ∧ faulted.ict.state = .faulted) ∧
    (running.listening ∧ running.ict.state ≠ .faulted ∧ (lane running 3).state ≠ .disarmed) ∧
    ((withLane stopped (someLane .disarmed)).listening ∧ (lane (withLane stopped (someLane .disarmed)) 3).settings ≠ none ∧
      ¬((lane (withLane stopped (someLane .disarmed)) 3).state ≠ .disarmed ∨
        (lane (withLane stopped (someLane .disarmed)) 3).change = .arm)) ∧
    (stopped.listening ∧ (lane stopped 15).settings = none ∧ (lane stopped 15).state = .disarmed) :=
  ⟨⟨faulted_listens, rfl⟩, ⟨running_listens, by decide +kernel⟩, ⟨listening_of_open _ (by decide +kernel), by decide +kernel⟩,
   stopped_listens, by decide +kernel⟩

/-- Each row of Table XXV. -/
theorem witness_ArmLane :
    (∀ e ∈ [(Inspection.stopped, LaneState.disarmed, LaneChange.none), (.running, .disarmed, .none), (.running, .disarmed, .arm),
        (.stopped, .ready, .none), (.running, .seeking, .none), (.running, .coated, .disarm), (.running, .gap, .none)],
      let s := withLane (part e.1 .ready .idle) { someLane e.2.1 with change := e.2.2 }
      s.listening ∧ s.ict.state = e.1 ∧ (lane s 3).settings ≠ none ∧ (lane s 3).state = e.2.1 ∧ (lane s 3).change = e.2.2) ∧
    (stopped.listening ∧ (lane stopped 15).settings = none) := by
  refine ⟨fun e he => ?_, stopped_listens, rfl⟩
  simp only [List.mem_cons, List.not_mem_nil, or_false] at he
  rcases he with rfl | rfl | rfl | rfl | rfl | rfl | rfl <;>
    exact ⟨listening_of_open _ (by decide +kernel), by decide +kernel⟩

/-- A line of lane 3 in its LNC stage, the lane with a void to end, and lane 4 with a change pending. -/
def voided (change : LaneChange) : State :=
  let s := withLane (inStage running { wholeLine .run with pixels := List.replicate 40 (.level 300) } false false false)
    { coatedLane with bareRun := 1, bareFirst := 15, bareLast := 15, bareLargest := 30 }
  { s with lnc := s.lnc.set 4 { someLane (if change = .disarm then .coated else .disarmed) with change := change } }

/-- Any number of VOID reports has room, and the stage has one to post. -/
theorem witness_LncStage : ∀ change ∈ [LaneChange.none, .arm, .disarm],
    let s := voided change
    s.atRest ∧ s.las.processing = some { slot := 0, lnc := false, spd := false, sti := false } ∧ s.ict.state ≠ .faulted ∧
      s.lnc.length = 16 ∧ s.rpq.queue.length + 16 ≤ 128 ∧ 0 < s.rpq.priorityOf .void ∧
      (after (exec .lncStage s)).lnk.tx = some (.report (.void 3 4 15 15 30)) ∧ Sparse.wf quietColumn s.sti.columns = true := by
  intro change h
  simp only [List.mem_cons, List.not_mem_nil, or_false] at h
  rcases h with rfl | rfl | rfl <;> exact ⟨atRest_of_free _ (by decide +kernel), by decide +kernel⟩

/-- A line of a class, and lane 2's settings with counts. -/
def lineOf (cls : LineClass) (suppressed : Bool) : LaneLine :=
  { number := 17, suppressed := suppressed, droppedBefore := 2, cls := cls, bareCount := 5 }

def counts (enter leave : Nat) : LaneSettings := { lane2 with enter := enter, leave := leave }

/-- A seeking lane with an enter run of 0 and 1, a coated lane with a bare run of 0 and 1, each one below its count and at it, and
the lines that are not used. -/
theorem witness_LaneAdvances :
    ((someLane .seeking).state = .seeking ∧ (someLane .seeking).enterRun = 0 ∧ 1 < (counts 2 2).enter ∧
      (lineOf .coated false).suppressed = false ∧ (lineOf .coated false).cls = .coated) ∧
    (let l := { someLane .gap with enterRun := 1 }
     l.state = .gap ∧ 0 < l.enterRun ∧ l.enterRun + 1 < (counts 3 2).enter ∧ (counts 2 2).enter ≤ l.enterRun + 1) ∧
    (coatedLane.state = .coated ∧ coatedLane.patch = some { start := 9, flags := Marks.none, spots := 0, voids := 0 } ∧
      coatedLane.bareRun = 0 ∧ 1 < (counts 2 2).leave ∧ (counts 2 1).leave ≤ coatedLane.bareRun + 1 ∧
      (lineOf .bare false).suppressed = false ∧ (lineOf .bare false).cls = .bare) ∧
    (let l := { coatedLane with bareRun := 1 }
     l.state = .coated ∧ 0 < l.bareRun ∧ l.bareRun + 1 < (counts 2 3).leave ∧ (counts 2 2).leave ≤ l.bareRun + 1) ∧
    ((lineOf .coated true).suppressed = true ∧ (lineOf .blind false).cls = .blind) := by decide +kernel

theorem witness_DetectorSettings : stopped.listening ∧ stopped.ict.state = .stopped ∧
    fitsWidths Request.setSpot.fieldWidths [1023, 0, 3, 2, 65535, 7, 64, 4096] ∧
    fitsWidths Request.setStreak.fieldWidths [8, 32767, 0, 64, 65535, 999] ∧
    firstBad [true, true, true, true, true, decide (7 = 0 ∨ (8 ≤ 7 ∧ 7 ≤ 4096))] 5 :=
  ⟨stopped_listens, rfl, fits_of _ _ (by decide +kernel), fits_of _ _ (by decide +kernel), bad_of _ _ (by decide)⟩

/-- An INSPECTED lane 3 of a line. -/
def inspected : List LaneOutcome :=
  [{ lane := 3, result := .inspected, patchNumber := 4, patchOpened := false, patchEnd := false, suppressed := false
     droppedBefore := 0 }]

/-- A line of lane 3 in SPD's stage, every second of its columns bright. -/
def spotted (width : Nat) : State :=
  withLane
    (inStage running
      { wholeLine .run with
        pixels := (List.range width).map (fun c => .level (if c % 2 = 1 then 590 else 250)), outcomes := inspected }
      true false false)
    { coatedLane with settings := coatedLane.settings.map fun c => { c with last := width - 1, guard := 0 } }

def runsOfLine (s : State) : List Run :=
  (inspectedLanes s (s.las.slot 0)).flatMap fun e => laneRuns s.spd e.1 e.2 (s.las.slot 0).pixels

theorem witness_SpdStage :
    ((spotted 40).atRest ∧ (spotted 40).las.processing = some { slot := 0, lnc := true, spd := false, sti := false } ∧
      (spotted 40).ict.state ≠ .faulted ∧ 0 < (spotted 40).las.slots.length ∧ (runsOfLine (spotted 40)).length ≤ 256) ∧
    ((spotted 518).atRest ∧ (spotted 518).takes .runOverflow ∧ ((runsOfLine (spotted 518))[256]?).isSome = true) ∧
    (lane2.lo < lane2.hi ∧
      [({ column := 4, deviation := 9, saturated := false } : SpotPixel), { column := 6, deviation := 3, saturated := true }].Pairwise
        (fun a b => a.column < b.column)) :=
  ⟨⟨atRest_of_free _ (by decide +kernel), by decide +kernel⟩,
   ⟨atRest_of_free _ (by decide +kernel), takes_of _ _ (by decide +kernel), by decide +kernel⟩, by decide⟩

/-- A line with 15 columns in band and one with 32. -/
theorem witness_StiStage :
    let s (n : Nat) : State := inStage (withLane running coatedLane)
      { wholeLine .run with
        pixels := (List.range 40).map (fun c => .level (if c < n then 250 else 500)), outcomes := inspected }
      true true false
    let k (n : Nat) : List Nat :=
      (inspectedLanes (s n) ((s n).las.slot 0)).map fun e => (inBand e.2 (validColumns e.2 ((s n).las.slot 0).pixels)).length
    (s 40).atRest ∧ (s 40).las.processing = some { slot := 0, lnc := true, spd := true, sti := false } ∧
      k 19 = [15] ∧ k 40 = [32] ∧ State.reset.sti.tOff < State.reset.sti.tOn ∧
      Sparse.wf quietColumn State.reset.sti.columns = true :=
  ⟨atRest_of_free _ (by decide +kernel), by decide +kernel⟩

/-- A run, and the track that it touches at the next column. -/
def someRun : Run := { lane := 3, polarity := .bright, first := 20, last := 22, pixels := 3, peak := 70, saturated := false }

def touched : State := withTrack running { spotTrack .open 9 with polarity := .bright, matchSpan := { lo := 23, hi := 25 } }

def matchesRun (s : State) (id : Nat) : Prop := id < 64 ∧ (s.track id).state = .open ∧ (s.track id).lane = 3 ∧
  (s.track id).polarity = .bright ∧ 20 ≤ (s.track id).matchSpan.hi + 1 ∧ (s.track id).matchSpan.lo ≤ 22 + 1 ∧
  ((s.track id).kind = .spot ∨ (s.track id).origin ≠ .integrator)

/-- The part in an inspection state with lane 3 at work and a line in TRK's stage, slot 5 holding an OPEN track. -/
def tracking (st : Inspection) (number : Nat) (o : List LaneOutcome) (runs : List Run) : State :=
  inStage (withTrack (withLane (part st .seeking .idle) coatedLane) { spotTrack .open 9 with polarity := .bright })
    { wholeLine .run with number := number, outcomes := o, runs := runs, pixels := List.replicate 40 (.level 300) }
    true true true

/-- The state after every track has had its end of the line. -/
def closedOf (s : State) : State :=
  let sl := s.las.slot 0
  let begun := State.mapTracks { s with trk := s.trk.countLine sl } Track.beginStage
  let found := (sl.runs.map Finding.run ++ sl.alerts.map Finding.alert).foldl (takeFinding sl) begun
  (List.range 64).foldl (endTrack sl)
    (((List.range 64).filter (fun id => (found.track id).state = .open)).foldl (fun u id => storeRow sl id u) found)

/-- The state after the line's processing has ended, when it posts no PATCH report. -/
def endedOf (s : State) : State :=
  let t := (closedOf s).mapTracks Track.endStage
  { t with
    las := { t.las with slots := t.las.slots.set 0 Slot.blank, processing := none }
    rpq := { t.rpq with
      priority := List.zipWith (fun p n => n.getD p) t.rpq.priority t.rpq.pendingPriority
      pendingPriority := t.rpq.pendingPriority.map (fun _ => none) } }

/-- The state in which the stop held pending begins. -/
def limitOf (s : State) : State :=
  let e := endedOf s
  State.withReport { e with ict := { e.ict with state := .stopping, lastStop := .lineLimit, limitPending := false } }
    (.state .stopping .lineLimit)

/-- A line without findings; one with findings on which a patch has ended; the last line of a run at the line limit; a line in
STOPPING with the STOP in progress; and one whose close loses a report, the notice of which reads an uncorrectable record. -/
theorem witness_TrkStage :
    (let s := inStage (withTrack running (spotTrack .held 9)) { wholeLine .run with outcomes := inspected } true true true
     s.atRest ∧ s.ict.state = .running ∧ s.ict.limitPending = false ∧
      s.las.processing = some { slot := 0, lnc := true, spd := true, sti := true } ∧ (s.las.slot 0).runs = [] ∧
      (s.las.slot 0).alerts = [] ∧ (∀ id < 64, (s.track id).state ≠ .open) ∧ ∀ i < 16, (lane s i).ended = none) ∧
    (let s := withLane (tracking .running 17 inspected [someRun])
       { coatedLane with
         ended := some { patch := { start := 9, flags := Marks.none, spots := 0, voids := 0 }, endLine := 16 } }
     s.atRest ∧ (∀ id < 64, (s.track id).state = .open → (s.track id).wrongWords = []) ∧ (closedOf s).ict.state = .running ∧
      (lane (closedOf s) 3).ended ≠ none ∧ (closedOf s).rpq.queue.length + 1 ≤ 128 ∧ 0 < (closedOf s).rpq.priorityOf .patch ∧
      (s.las.slot 0).number ≠ 1099511627775) ∧
    (let s := withIct (tracking .running 1099511627775 inspected []) fun i => { i with limitPending := true }
     s.atRest ∧ (closedOf s).ict.state = .running ∧ (s.las.slot 0).kind = .run ∧ (s.las.slot 0).number = 1099511627775 ∧
      (closedOf s).ict.limitPending = true ∧ (∀ i < 16, (lane (closedOf s) i).ended = none) ∧ s.lnk.inProgress = none ∧
      (endedOf s).room .state ∧ (limitOf s).stopRuns) ∧
    (let s := withLnk (tracking .stopping 17 inspected []) fun l => { l with inProgress := some { tag := 21, reply := none } }
     s.atRest ∧ (closedOf s).ict.state = .stopping ∧ (∀ i < 16, (lane (closedOf s) i).ended = none) ∧
      (endedOf s).stopRuns ∧ s.lnk.requests = [] ∧ s.lnk.replies.length < 4) ∧
    (let o := inspected.map fun o => { o with result := .laneChanged }
     let s := tracking .running 17 o []
     let s := { s with
       trk := { s.trk with slots := s.trk.slots.set 7 { heldTrack with wrongWords := [.double] } }
       lnk := { s.lnk with tx := some (.report (.web none 0)) }
       rpq := { s.rpq with queue := (fullQueue 1).map fun r => { r with close := some { id := 7, serial := 0 } } } }
     s.atRest ∧ (∀ id < 64, (s.track id).state = .open → (s.track id).wrongWords = []) ∧ s.lnk.inProgress = none ∧
      (closedOf s).ict.state = .faulted) :=
  ⟨⟨atRest_of_free _ (by decide +kernel), by decide +kernel⟩, ⟨atRest_of_free _ (by decide +kernel), by decide +kernel⟩,
   ⟨atRest_of_free _ (by decide +kernel), by decide +kernel, by decide +kernel, by decide +kernel, by decide +kernel,
    by decide +kernel, by decide +kernel, room_of _ _ (by decide +kernel), runs_of _ (by decide +kernel)⟩,
   ⟨⟨rfl, nothingDue_of_calm _ (by decide +kernel), by decide +kernel, allSent_of_sent _ (by decide +kernel)⟩,
    by decide +kernel, by decide +kernel, runs_of _ (by decide +kernel), by decide +kernel⟩,
   atRest_of_free _ (by decide +kernel), by decide +kernel⟩

/-- A track on a line, its lane with 300 inspected lines: what the settings and the outcome make of it. -/
def lineOfTrack (o : LaneOutcome) (t : Track) (g : Trk → Trk) : State × Slot :=
  (withTrk (withTrack running { t with gap := 1, first := false }) fun k => g { k with inspected := List.replicate 16 300 },
   { wholeLine .run with outcomes := [o] })

/-- Slot 5's track is OPEN with good words, and the line carries an outcome of its lane. -/
def endsLine (p : State × Slot) : Bool :=
  decide (p.1.ict.state ≠ .faulted) && decide ((p.1.track 5).state = .open) && decide ((p.1.track 5).wrongWords = []) &&
  (p.2.outcomes.find? (fun o => o.lane = (p.1.track 5).lane)).isSome && decide (p.1.rpq.queue.length < 128) &&
  decide (0 < p.1.rpq.priorityOf .streakOpen) && decide (0 < p.1.rpq.priorityOf .streakProgress)

/-- One track for each clause on the end of the line: the lane changes, the patch ends, the size limit, the gap, a promotion, a
STREAK_OPEN that a merge has made due, the minimum of a tentative streak, its progress, and none of them. -/
theorem witness_TrkStage_endTrack :
    let o : LaneOutcome :=
      { lane := 3, result := .inspected, patchNumber := 4, patchOpened := false, patchEnd := false, suppressed := false
        droppedBefore := 0 }
    let spot : Track := { spotTrack .open 9 with joined := some { lo := 12, hi := 14 } }
    let streak : Track := { spot with kind := .streak, origin := .integrator, peakAccumulator := some 2000 }
    let kept (k : Trk) : Trk := { k with progress := 1000 }
    (∀ p ∈ [lineOfTrack { o with result := .laneChanged } spot id, lineOfTrack { o with patchEnd := true } spot id,
        lineOfTrack o spot (fun k => { k with promote := 0 }), lineOfTrack o (spotTrack .open 9) id, lineOfTrack o spot id,
        lineOfTrack o { streak with openDue := true } id, lineOfTrack o { streak with tentative := true } id,
        lineOfTrack o { streak with progressBase := 0 } (fun k => { k with progress := 301 }), lineOfTrack o streak kept],
      endsLine p = true) ∧
    ((lineOfTrack o spot id).1.trk.spotMax ≤ 301 ∧ (lineOfTrack o spot id).1.trk.spotGap < 1 + 1 ∧
      (lineOfTrack o spot id).1.trk.promote ≤ 301 ∧ 14 + 1 - 12 ≤ (lineOfTrack o spot id).1.trk.streakMaxWidth ∧
      (lineOfTrack o spot id).1.trk.streakMin ≤ 301) := by decide +kernel

/-- A run that matches no track, one track, none with no slot FREE, below the minimum area and at it, and two tracks of one age. -/
theorem witness_FindingTaken :
    (running.ict.state ≠ .faulted ∧ (∀ n, ¬matchesRun running n) ∧ running.trk.freeList = 0 :: (List.range 64).tail) ∧
    (matchesRun touched 5 ∧ ∀ n, matchesRun touched n → n = 5) ∧
    (let s := withTrk running fun k => { k with freeList := [] }
     (∀ n, ¬matchesRun s n) ∧ s.trk.freeList = [] ∧ s.takes .tableFull ∧ someRun.pixels < s.trk.minArea) ∧
    (let s := withTrk running fun k => { k with freeList := [], minArea := 3 }
     (∀ n, ¬matchesRun s n) ∧ s.trk.freeList = [] ∧ s.takes .tableFull ∧ s.trk.minArea ≤ someRun.pixels ∧
      (State.withOccurrence { s with trk := { s.trk with failures := 1, untracked := 1 } } .tableFull (some 3) none).room
        .spot) ∧
    (let s := withTrk touched fun k => { k with slots := k.slots.set 6 { touched.track 5 with matchSpan := { lo := 17, hi := 19 } } }
     matchesRun s 5 ∧ ([6] : List Nat) ≠ [] ∧ ([6] : List Nat).Pairwise (· < ·) ∧ (∀ n, n ∈ [6] ↔ matchesRun s n ∧ n ≠ 5) ∧
      ∀ n ∈ [6], (s.track 5).firstLine < (s.track n).firstLine ∨
        ((s.track 5).firstLine = (s.track n).firstLine ∧ 5 < n)) := by
  refine ⟨⟨by decide +kernel, fun n h => ?_, by decide +kernel⟩, ⟨by unfold matchesRun; decide +kernel, fun n h => ?_⟩,
    ⟨fun n h => ?_, rfl, takes_of _ _ (by decide +kernel), by decide +kernel⟩,
    ⟨fun n h => ?_, rfl, takes_of _ _ (by decide +kernel), by decide +kernel, room_of _ _ (by decide +kernel)⟩,
    by unfold matchesRun; decide +kernel, by decide, by decide, fun n => ⟨fun h => ?_, fun h => ?_⟩, by decide +kernel⟩
  · have all : ∀ n < 64, (running.track n).state ≠ .open := by decide +kernel
    exact all n h.1 h.2.1
  · have all : ∀ n < 64, (touched.track n).state = .open → n = 5 := by decide +kernel
    exact all n h.1 h.2.1
  · have all : ∀ n < 64, (running.track n).state ≠ .open := by decide +kernel
    exact all n h.1 h.2.1
  · have all : ∀ n < 64, (running.track n).state ≠ .open := by decide +kernel
    exact all n h.1 h.2.1
  · obtain rfl : n = 6 := by simpa using h
    exact ⟨by unfold matchesRun; decide +kernel, by decide⟩
  · have all : ∀ n < 64,
        ((withTrk touched fun k => { k with slots := k.slots.set 6 { touched.track 5 with matchSpan := { lo := 17, hi := 19 } } }).track
          n).state = .open → n = 5 ∨ n = 6 := by decide +kernel
    simpa [h.2] using all n h.1.1 h.1.2.1

/-- A continued track with a clip, and the pool. -/
def storing (blocks : List Nat) (words : Nat) (pool : List Nat) : State :=
  withCls
    (withTrack (withLane running coatedLane)
      { spotTrack .open 9 with
        joined := some { lo := 12, hi := 14 }
        clip := { Clip.blank with valid := true, blocks := blocks, wordsUsed := words, rows := 12 } })
    fun c => { c with pool := pool }

/-- Closes of each kind; and a row of 10 words that just fits, that needs a block more, that finds 32 blocks, and an empty pool. -/
theorem witness_TrackCloses : 5 < (withTrack running (spotTrack .open 9)).trk.slots.length ∧
    ((spotTrack .open 3).kind = .spot ∧ (spotTrack .open 3).area < running.trk.minArea ∧
      running.trk.minArea ≤ (spotTrack .open 4).area) ∧
    (∀ b, ({ spotTrack .open 4 with kind := .streak, tentative := b } : Track).kind = .streak) ∧
    running.room .spot ∧ running.room .streakClose ∧
    (∀ p ∈ [storing [7] 118 [9], storing [7] 119 [9, 8], storing (List.range 32) 119 [], storing [7] 119 []],
      5 < p.trk.slots.length ∧ Sparse.wf clipDefault p.cls.words = true ∧ (p.track 5).joined = some { lo := 12, hi := 14 } ∧
        (lane p 3).settings = coatedLane.settings ∧ (p.track 5).clip.valid = true ∧ (p.track 5).clip.rows ≠ p.cls.maximum ∧
        p.cls.margin = 2) ∧
    (3 + min (min 37 (14 + 2) + 1 - max 2 (12 - 2)) 64 = 10 ∧ 10 ≤ 128 - 118 ∧ 128 - 119 < 10 ∧
      32 ≤ (List.range 32).length) :=
  ⟨by decide +kernel, by decide +kernel, fun _ => rfl, room_of _ _ (by decide +kernel), room_of _ _ (by decide +kernel),
   by decide +kernel, by decide⟩

theorem witness_TracksRead :
    ((withHeld []).listening ∧ (withHeld []).ict.state ≠ .faulted ∧ 63 < 64 ∧ ((withHeld []).track 5).state = .held ∧
      ((withHeld []).track 63).state ≠ .held ∧ ∀ i < 64, ((withHeld []).track i).wrongWords = []) ∧
    ((withHeld [.single]).listening ∧ ((withHeld [.single]).track 5).wrongWords = [.single] ∧
      (withHeld [.single]).takes .memoryCorrected ∧ ((withHeld [.single]).track 5).state = .held ∧
      ∀ i < 64, i ≠ 5 → ((withHeld [.single]).track i).wrongWords = []) ∧
    ((withHeld [.double]).listening ∧ ((withHeld [.double]).track 5).wrongWords = .double :: []) :=
  ⟨⟨listening_of_open _ (by decide +kernel), by decide +kernel⟩,
   ⟨listening_of_open _ (by decide +kernel), by decide +kernel, takes_of _ _ (by decide +kernel), by decide +kernel⟩,
   listening_of_open _ (by decide +kernel), by decide +kernel⟩

theorem witness_SetClips : stopped.listening ∧ stopped.ict.state = .stopped ∧
    fitsWidths Request.setClips.fieldWidths [1, 1, 8, 1025] ∧
    firstBad [decide (1 ≤ 1), decide (1 ≤ 1), decide (8 ≤ 8), decide (1 ≤ 1025 ∧ 1025 ≤ 1024)] 3 :=
  ⟨stopped_listens, rfl, fits_of _ _ (by decide +kernel), bad_of _ _ (by decide)⟩

/-- A bad count, a FREE slot, a row past the last; the rows of a clip with good words, with an uncorrectable width, and with one wrong bit
in the width word of row 0, which every read from row 0 or 1 meets, or in the line word of row 0, which a read from row 1 does not meet. -/
theorem witness_ReadClip :
    ((withHeld []).listening ∧ (withHeld []).ict.state ≠ .faulted ∧
      firstBad [decide (63 ≤ 63), decide (1023 ≤ 1023), decide (1 ≤ 8 ∧ 8 ≤ 7)] 2) ∧
    (((withHeld []).track 63).state = .free ∧ ((withHeld []).track 5).state ≠ .free ∧ ((withHeld []).track 5).clip.rows ≤ 2 ∧
      1 < ((withHeld []).track 5).clip.rows) ∧
    (let word (offset : Nat) := Sparse.get clipDefault (withHeld []).cls.words (clipAddress [7] offset)
     let place (k : Nat) : Option Nat := some (3 * k)
     (∀ offset, (word offset).health ≠ .single) ∧ place 0 = some 0 ∧
      ∀ k, place (k + 1) = (place k).bind (fun o =>
        if (word (o + 2)).health = .double then none else some (o + 3 + (word (o + 2)).val.getD 0))) ∧
    (let s := withCls (withHeld []) fun c => { c with words := [(898, { val := some 4, health := .double })] }
     let word (offset : Nat) := Sparse.get clipDefault s.cls.words (clipAddress [7] offset)
     let place (k : Nat) : Option Nat := if k = 0 then some 0 else none
     s.listening ∧ (word 2).health = .double ∧ place 0 = some 0 ∧
      ∀ k, place (k + 1) = (place k).bind (fun o =>
        if (word (o + 2)).health = .double then none else some (o + 3 + (word (o + 2)).val.getD 0))) ∧
    (∀ k ∈ [0, 2],
      let s := withCls (withHeld []) fun c => { c with words := [(896 + k, { val := some 4, health := .single })] }
      let word (offset : Nat) := Sparse.get clipDefault s.cls.words (clipAddress [7] offset)
      let place : Nat → Option Nat := fun n => match n with
        | 0 => some 0
        | n + 1 => some (3 * n + 3 + (if k = 2 then 4 else 0))
      s.listening ∧ s.memoryWf = true ∧ s.takes .memoryCorrected ∧ (word k).health = .single ∧ place 0 = some 0 ∧
        (∀ n, place (n + 1) = (place n).bind (fun o =>
          if (word (o + 2)).health = .double then none else some (o + 3 + (word (o + 2)).val.getD 0))) ∧
        ∀ offset, clipAddress [7] offset ≠ clipAddress [7] k → (word offset).health ≠ .single) := by
  have others : ∀ k v a, a ≠ k → (Sparse.get clipDefault [(k, { val := v, health := .single })] a).health ≠ .single := by
    intro k v a h
    simp [Sparse.get, Ne.symm h, clipDefault]
  have next : ∀ k o i : Nat, k = 896 + i → i < o →
      some (o + 1) = if (Sparse.get clipDefault [(k, { val := some 4, health := .single })] (clipAddress [7] o)).health = .double then none
        else some (o + 1 + (Sparse.get clipDefault [(k, { val := some 4, health := .single })] (clipAddress [7] o)).val.getD 0) := by
    intro k o i hk hi
    have : k ≠ clipAddress [7] o := by
      by_cases ho : o / 128 = 0
      · simp [clipAddress, Config.blockWords, ho]; omega
      · obtain ⟨m, hm⟩ : ∃ m, o / 128 = m + 1 := ⟨o / 128 - 1, by omega⟩
        simp [clipAddress, Config.blockWords, hm]; omega
    simp [Sparse.get, this, clipDefault]
  refine ⟨⟨listening_of_open _ (by decide +kernel), by decide +kernel, bad_of _ _ (by decide)⟩, by decide +kernel,
    ⟨fun _ => (nofun : Health.good ≠ Health.single), rfl, fun k => rfl⟩,
    ⟨listening_of_open _ (by decide +kernel), by decide +kernel, rfl, fun k => by cases k <;> rfl⟩, fun k hk => ?_⟩
  simp only [List.mem_cons, List.not_mem_nil, or_false] at hk
  rcases hk with rfl | rfl <;>
    refine ⟨listening_of_open _ (by decide +kernel), by decide +kernel, takes_of _ _ (by decide +kernel), by decide +kernel, rfl,
      fun n => ?_, fun o h => others _ _ _ h⟩
  · cases n with
    | zero => rfl
    | succ n => exact next 896 (3 * n + 3 + 2) 0 rfl (by omega)
  · cases n with
    | zero => rfl
    | succ n => exact next 898 (3 * n + 3 + 4 + 2) 2 rfl (by omega)

theorem witness_SetPriority :
    (running.listening ∧ running.ict.state ≠ .faulted ∧ running.las.processing = none ∧ running.rpq.priority.length = 11 ∧
      running.rpq.pendingPriority.length = 11 ∧ 0x8A = 0x80 + ReportKind.calibration.index) ∧
    ((inStage running (wholeLine .run) true false false).listening ∧
      (inStage running (wholeLine .run) true false false).las.processing ≠ none) :=
  ⟨⟨running_listens, by decide +kernel⟩, listening_of_open _ (by decide +kernel), by decide +kernel⟩

theorem witness_SetAttention : (faulted.listening ∧ faulted.ict.state = .faulted) ∧
    (running.listening ∧ running.ict.state ≠ .faulted ∧ ¬(1 ≤ 129 ∧ 129 ≤ 128) ∧ 128 ≤ 128 ∧ ¬(1 ≤ 4 ∧ 4 ≤ 3) ∧ 3 ≤ 3) :=
  ⟨⟨faulted_listens, rfl⟩, running_listens, by decide +kernel⟩

/-- A part in STOPPED with a held track and its clip, and a step that releases it. -/
def busy : State :=
  { withTrack stopped heldTrack with
    cls := { stopped.cls with pool := (List.range 1024).erase 7 }, pending := [.releaseTrack 4 [5#8]] }

theorem busy_inv : busy.Inv := by
  refine ⟨by decide +kernel, ?_, ?_, ?_, ?_⟩
  · unfold State.queuesFit; decide +kernel
  · unfold State.idsPartitioned; decide +kernel
  · unfold State.blocksPartitioned; decide +kernel
  · unfold State.settingsLegal; decide +kernel

theorem witness_StepKeepsInvariant : busy.Inv ∧ step busy = .next (after (step busy)) :=
  ⟨busy_inv, next_of _ (by decide +kernel)⟩

theorem witness_StepKeepsQuiet : busy.Inv ∧ busy.quiet ∧ step busy = .next (after (step busy)) :=
  ⟨busy_inv, fun _ _ => by decide +kernel, next_of _ (by decide +kernel)⟩

end Sys2Proof.Tests
end

section
/-! SUPPORT. How an event of a part at rest ends, how a request row is refused or taken, and what an occurrence with room does. -/

namespace Sys2Proof.Machine

/-! ## The end of an event of a part at rest -/

/-- Whether a procedure is due depends on the inspection state, LAS, FFC and the triggers remaining alone. -/
theorem State.nothingDue_congr {s t : State} (h : s.nothingDue) (hi : t.ict.state = s.ict.state) (hl : t.las = s.las)
    (hf : t.ffc = s.ffc) (hc : t.enc.calRemaining = s.enc.calRemaining) : t.nothingDue := by
  simpa only [State.nothingDue, calibrationDue, hi, hl, hf, hc] using h

/-- In RUNNING no procedure is due. -/
theorem State.nothingDue_of_running {s : State} (h : s.ict.state = .running) : s.nothingDue :=
  ⟨by simp [h], fun _ _ => by simp [calibrationDue, h]⟩

/-- In CALIBRATING nothing is due while the calibration's own conditions do not hold. -/
theorem State.nothingDue_of_calibrating {s : State} (h : s.ict.state = .calibrating)
    (hr : ∀ r, s.ffc.record = some r → calibrationDue r s = false) : s.nothingDue :=
  ⟨by simp [h], hr⟩

/-- While a line is in processing the STOP procedure waits, and no calibration is due outside CALIBRATING. -/
theorem State.nothingDue_of_processing {s : State} (h : s.ict.state ≠ .calibrating) (hp : s.las.processing ≠ none) :
    s.nothingDue :=
  ⟨fun hn => hp hn.2, fun _ _ => by simp [calibrationDue, h]⟩

/-- An event of a part at rest that leaves the link alone: what is left is a frame's beginning. -/
theorem inService_of_posted (event : State → State) {s t : State} (h : s.atRest) (ht : event s = t) (hl : t.lnk = s.lnk)
    (hd : t.nothingDue) : inService event s = .next t.sends := by
  obtain ⟨hh, -, hc, hs⟩ := h
  have he : settle t = t.sends :=
    settle_of_posted t hd (by rw [hl]; exact hc) (by rw [hl]; exact fun hx => (hs hx).1)
  simp [inService, hh, ht, he]

/-- An event of a part at rest that leaves the link and the report queue alone settles at once. -/
theorem inService_of_unposted (event : State → State) {s t : State} (h : s.atRest) (ht : event s = t) (hl : t.lnk = s.lnk)
    (hq : t.rpq = s.rpq) (hd : t.nothingDue) : inService event s = .next t := by
  have hs : t.allSent := by simpa only [State.allSent, hl, hq] using h.2.2.2
  rw [inService_of_posted event h ht hl hd, t.sends_of_allSent hs]

/-! ## A request row to a part that is listening -/

/-- A request row stands for its frame being judged. -/
theorem exec_row (r : Request) (tag : Byte) (p : List Byte) (s : State) :
    exec (r.row tag p) s = inService (deliver r.code tag p) s := by
  cases r <;> rfl

/-- A code names its request. -/
theorem ofCode_code (r : Request) : Request.ofCode r.code = some r := by
  cases r <;> decide

/-- A request that the inspection state does not take is refused (R162 step 2). -/
theorem exec_row_refusedByState {s : State} (h : s.listening) (r : Request) (tag : Byte) {p : List Byte}
    (hp : p.length ≤ Config.payloadLimit) {reason : RefuseReason} (hr : refusedByState r s.ict.state = some reason) :
    exec (r.row tag p) s = .next (s.withReply tag (.refused r.code reason 0)).sends := by
  rw [exec_row]
  refine inService_deliver_rests s h _ _ _ hp _ ?_ (h.rests_withReply _ _)
  simp only [processFrame, ofCode_code, hr, State.refuse_eq_withReply]

/-- A request that is taken but for the length of its payload is refused (R162 step 3). -/
theorem exec_row_badLength {s : State} (h : s.listening) (r : Request) (tag : Byte) {p : List Byte}
    (hp : p.length ≤ Config.payloadLimit) (hr : refusedByState r s.ict.state = none) (hl : r.lengthOk p = false) :
    exec (r.row tag p) s = .next (s.withReply tag (.refused r.code .badLength 0)).sends := by
  rw [exec_row]
  refine inService_deliver_rests s h _ _ _ hp _ ?_ (h.rests_withReply _ _)
  simp only [processFrame, ofCode_code, hr, hl, State.refuse_eq_withReply]
  rfl

/-- A request that its block answers, leaving nothing due and nothing wanting a place. -/
theorem exec_row_handled {s t : State} (h : s.listening) (r : Request) (tag : Byte) {p : List Byte}
    (hp : p.length ≤ Config.payloadLimit) (hr : refusedByState r s.ict.state = none) (hl : r.lengthOk p = true)
    (ht : handle r tag p s = t) (hrest : t.rests) : exec (r.row tag p) s = .next t.sends := by
  rw [exec_row]
  exact inService_deliver_rests s h _ _ _ hp _ (by rw [processFrame_taken s r tag p hr hl, ht]) hrest

/-! ## Fields of a payload (R170) -/

/-- Fields that fit their widths fill a payload of the widths' sum. -/
theorem fieldBytes_length {ws vs : List Nat} (h : vs.length = ws.length) : (fieldBytes ws vs).length = ws.sum := by
  induction ws generalizing vs with
  | nil => simp [fieldBytes]
  | cons w ws ih =>
    cases vs with
    | nil => simp at h
    | cons v vs =>
      have := ih (vs := vs) (by simpa using h)
      simp_all [fieldBytes]

/-- Fields that fit their widths are read back. -/
theorem readFields_fieldBytes {ws vs : List Nat} (h : fitsWidths ws vs) : readFields ws (fieldBytes ws vs) = vs := by
  induction ws generalizing vs with
  | nil => simpa [readFields] using h.1
  | cons w ws ih =>
    cases vs with
    | nil => simp [fitsWidths] at h
    | cons v vs =>
      obtain ⟨hl, hf⟩ := h
      simp only [List.zip_cons_cons, List.forall_mem_cons] at hf
      have hrest : readFields ws (fieldBytes ws vs) = vs := ih ⟨by simpa using hl, hf.2⟩
      have hb : fieldBytes (w :: ws) (v :: vs) = leBytes w v ++ fieldBytes ws vs := rfl
      simp [readFields, hb, leNat_leBytes w v hf.1, hrest]

/-- The first bad field is the one whose check fails first. -/
theorem firstFailing_of_firstBad {ok : List Bool} {i : Nat} (h : firstBad ok i) : firstFailing ok = some i := by
  obtain ⟨hi, hj⟩ := h
  have hlt : i < ok.length := by
    by_contra hge
    simp [List.getD, List.getElem?_eq_none (Nat.le_of_not_lt hge)] at hi
  refine List.findIdx?_eq_some_iff_getElem.mpr ⟨hlt, ?_, fun j hji => ?_⟩
  · simpa [List.getD, hlt] using hi
  · have := hj j hji
    simpa [List.getD, show j < ok.length by omega] using this

/-- With every field in range no check fails. -/
theorem firstFailing_of_allOk {ok : List Bool} (h : allOk ok) : firstFailing ok = none :=
  List.findIdx?_eq_none_iff.mpr fun b hb => by simp [h b hb]

/-! ## Requests with their fields -/

/-- Table LXIX gives every request but LOAD_TABLE one length. -/
theorem lengthOk_of_ne_loadTable {r : Request} (h : r ≠ .loadTable) (p : List Byte) :
    r.lengthOk p = (p.length == r.fieldWidths.sum) := by
  cases r with
  | loadTable => exact absurd rfl h
  | _ => rfl

theorem fieldWidths_sum_le (r : Request) : r.fieldWidths.sum ≤ Config.payloadLimit := by
  cases r <;> decide

/-- A request with fields that fit, in a state that takes it, goes to its block with the fields. -/
theorem exec_rowOf_handled {s t : State} (h : s.listening) {r : Request} (hr : refusedByState r s.ict.state = none)
    (hn : r ≠ .loadTable) (tag : Byte) {f : List Nat} (hf : fitsWidths r.fieldWidths f)
    (ht : handle r tag (fieldBytes r.fieldWidths f) s = t) (hrest : t.rests) :
    exec (rowOf r tag f) s = .next t.sends := by
  have hlen := fieldBytes_length hf.1
  exact exec_row_handled h r tag (by rw [hlen]; exact fieldWidths_sum_le r) hr
    (by rw [lengthOk_of_ne_loadTable hn, hlen, beq_self_eq_true]) ht hrest

/-! ## Requests that STOPPED alone takes (Table LXVII) -/

/-- The requests that are refused in the states of work and in FAULTED. -/
def stoppedOnly : List Request := [.setHead, .setEncoder, .setSpot, .setStreak, .setClips, .calibrate, .start]

theorem refusedByState_stoppedOnly {r : Request} (h : r ∈ stoppedOnly) :
    refusedByState r .stopped = none ∧ refusedByState r .faulted = some .faulted ∧
      ∀ st, st = .calibrating ∨ st = .running ∨ st = .stopping → refusedByState r st = some .busy := by
  simp only [stoppedOnly, List.mem_cons, List.not_mem_nil, or_false] at h
  rcases h with rfl | rfl | rfl | rfl | rfl | rfl | rfl <;>
    exact ⟨rfl, rfl, fun st hs => by rcases hs with rfl | rfl | rfl <;> rfl⟩

theorem ne_loadTable_of_stoppedOnly {r : Request} (h : r ∈ stoppedOnly) : r ≠ .loadTable := by
  rintro rfl
  exact absurd h (by decide)

/-- Such a request is refused as stated, when its block names the first field that fails its check. -/
theorem refusedAsStated_of_badValue {s : State} (h : s.listening) {r : Request} (hr : r ∈ stoppedOnly)
    (ok : List Nat → List Bool) (tag : Byte)
    (hb : ∀ f i, fitsWidths r.fieldWidths f → firstBad (ok f) i →
      handle r tag (fieldBytes r.fieldWidths f) s = s.badValue tag r i) : refusedAsStated r ok s tag := by
  obtain ⟨hst, hfa, hbusy⟩ := refusedByState_stoppedOnly hr
  have hn := ne_loadTable_of_stoppedOnly hr
  refine ⟨fun p hp => ⟨fun hs => ?_, fun hs => ?_, fun hs hl => ?_⟩, fun f i hs hf hi => ?_⟩
  · exact exec_row_refusedByState h r tag hp (by rw [hs, hfa])
  · exact exec_row_refusedByState h r tag hp (hbusy _ hs)
  · exact exec_row_badLength h r tag hp (by rw [hs, hst]) (by rw [lengthOk_of_ne_loadTable hn]; simpa using hl)
  · exact exec_rowOf_handled h (by rw [hs, hst]) hn tag hf (by rw [hb f i hf hi, State.badValue_eq_withReply])
      (h.rests_withReply _ _)

/-! ## An occurrence that is taken (R178) -/

/-- An action reports unless it is IGNORE. -/
theorem Action.reports_iff (a : Action) : a.reports = true ↔ a ≠ .ignore := by
  cases a <;> simp [Action.reports]

/-- An occurrence that loses no report and begins no stop. -/
theorem occur_of_takes (s : State) (src : Source) (detail line : Option Nat) (h : s.takes src) :
    occur src detail line s = s.withOccurrence src detail line := by
  obtain ⟨hroom, hstop⟩ := h
  simp only [occur, occurWith, State.withOccurrence, Bool.and_eq_true, Action.reports_iff, Bool.not_eq_true']
  by_cases hrep : s.ict.action src ≠ .ignore ∧ s.ict.latches.getD src.code false = false
  · have hr : s.room .fault := hroom.resolve_left hrep.1 |>.resolve_left (by rw [hrep.2]; decide)
    rw [if_pos hrep, if_pos hrep,
      post_room { s with ict := s.ict.count src } (.fault src false detail line (s.ict.action src) none) none hr]
    exact if_neg hstop
  · rw [if_neg hrep, if_neg hrep]
    exact if_neg hstop

/-- STOPPING is entered with its cause, when its STATE report has room (R173). -/
theorem beginStop_room (cause : StopCause) (s : State) (h : s.room .state) :
    beginStop cause s =
      State.withReport { s with ict := { s.ict with state := .stopping, lastStop := cause, limitPending := false } }
        (.state .stopping cause) :=
  enterState_room { s with ict := { s.ict with lastStop := cause, limitPending := false } } .stopping h

variable (s : State) (src : Source) (d l : Option Nat)

/-- An occurrence that is taken changes ICT's counts and latches and the report queue alone. -/
theorem State.withOccurrence_eq : ∃ ict rpq, s.withOccurrence src d l = { s with ict := ict, rpq := rpq } ∧
    ict.state = s.ict.state := by
  simp only [State.withOccurrence]
  split
  · exact ⟨_, _, rfl, rfl⟩
  · exact ⟨_, s.rpq, rfl, rfl⟩

@[simp] theorem State.withOccurrence_lnk : (s.withOccurrence src d l).lnk = s.lnk := by
  obtain ⟨_, _, h, -⟩ := s.withOccurrence_eq src d l
  rw [h]

@[simp] theorem State.withOccurrence_las : (s.withOccurrence src d l).las = s.las := by
  obtain ⟨_, _, h, -⟩ := s.withOccurrence_eq src d l
  rw [h]

@[simp] theorem State.withOccurrence_ffc : (s.withOccurrence src d l).ffc = s.ffc := by
  obtain ⟨_, _, h, -⟩ := s.withOccurrence_eq src d l
  rw [h]

@[simp] theorem State.withOccurrence_enc : (s.withOccurrence src d l).enc = s.enc := by
  obtain ⟨_, _, h, -⟩ := s.withOccurrence_eq src d l
  rw [h]

@[simp] theorem State.withOccurrence_state : (s.withOccurrence src d l).ict.state = s.ict.state := by
  obtain ⟨_, _, h, hs⟩ := s.withOccurrence_eq src d l
  rw [h, ← hs]

/-- An occurrence neither reads nor changes LAS. -/
theorem State.withOccurrence_setLas (las : Las) :
    State.withOccurrence { s with las := las } src d l = { s.withOccurrence src d l with las := las } := by
  simp only [State.withOccurrence]
  split <;> rfl

end Sys2Proof.Machine
end

section
/-! PROOFS. The queue of commands, encoder edges, and the counts they give. -/

namespace Sys2Proof.Machine

/-! ## The queue of commands (log 37) -/

/-- An edge on ENC_B, and an edge behind which time lies, join the queue as its last. -/
theorem arrive_last (queue : List Instr) (ch : Channel) (level : Bool) (e : Nat) (h : ch = .b ∨ 0 < e) :
    arrive queue (.encoderEdge ch level e) = queue ++ [.encoderEdge ch level e] := by
  induction queue with
  | nil => rfl
  | cons q rest ih =>
    rw [arrive, ih, List.cons_append]
    rintro b t a hc - -
    obtain ⟨rfl, -, rfl⟩ := (Instr.encoderEdge.injEq ..).mp hc
    exact absurd h (by decide)

/-- An edge on ENC_A with no time between goes before the edge on ENC_B at the queue's end. -/
theorem arrive_before (queue : List Instr) (a b : Bool) (e : Nat) :
    arrive (queue ++ [.encoderEdge .b b e]) (.encoderEdge .a a 0) =
      queue ++ [.encoderEdge .a a e, .encoderEdge .b b 0] := by
  induction queue with
  | nil => rfl
  | cons q rest ih =>
    cases rest with
    | nil => simp [arrive]
    | cons q' rest => simpa [arrive] using ih

/-! ## Quadrature counting (R1 to R3) -/

/-- A step of the forward sequence of A_LEADS, taken either way in either direction (Table IV). -/
theorem countOf_aLeadsForward : ∀ old new, (old, new) ∈ aLeadsForward →
    countOf .aLeads old new = .forward ∧ countOf .aLeads new old = .reverse ∧
      countOf .bLeads new old = .forward ∧ countOf .bLeads old new = .reverse := by decide

theorem countOf_same (dir : Direction) (p : Bool × Bool) : countOf dir p p = .neither := if_pos rfl

variable {s : State} {ch : Channel} {level : Bool} {e : Nat}

theorem countOf_edgeForward (h : s.edgeForward ch level e) :
    countOf s.enc.settings.direction (s.enc.levelA, s.enc.levelB) (s.pairAfter ch level) = .forward := by
  obtain ⟨-, -, hm⟩ := h
  cases hd : s.enc.settings.direction <;> rw [hd] at hm
  · exact (countOf_aLeadsForward _ _ hm).1
  · exact (countOf_aLeadsForward _ _ hm).2.2.1

theorem countOf_edgeReverse (h : s.edgeReverse ch level e) :
    countOf s.enc.settings.direction (s.enc.levelA, s.enc.levelB) (s.pairAfter ch level) = .reverse := by
  obtain ⟨-, -, hm⟩ := h
  cases hd : s.enc.settings.direction <;> rw [hd] at hm
  · exact (countOf_aLeadsForward _ _ hm).2.1
  · exact (countOf_aLeadsForward _ _ hm).2.2.2

/-- What a count does. -/
def Count.act : Count → State → State
  | .neither => id
  | .forward => forwardCount
  | .reverse => reverseCount

/-- The clock and the pin after an edge, with the edge accepted (R1). -/
def State.accepted (s : State) (ch : Channel) (level : Bool) (e : Nat) : State :=
  { s.atEdge ch level e with enc := s.encAfter ch level e }

theorem atEdge_accept : { s.atEdge ch level e with enc := (s.atEdge ch level e).enc.accept ch level (s.now + e) } =
    s.accepted ch level e := by
  cases ch <;> rfl

theorem glitch_iff : s.enc.glitch (s.now + e) = true ↔ s.edgeIgnored e := by
  simp only [Enc.glitch, State.edgeIgnored]
  cases s.enc.lastEdge <;> simp

/-- ENCODER_EDGE moves the clock and the pin, and then the edge is taken. -/
theorem exec_encoderEdge : exec (.encoderEdge ch level e) s = inService (edge ch level) (s.atEdge ch level e) := by
  cases ch <;> rfl

/-- An edge that posts at most reports ends in a frame's beginning. -/
theorem exec_edge_posted {s t : State} {ch : Channel} {level : Bool} {e : Nat} (h : s.atRest)
    (ht : edge ch level (s.atEdge ch level e) = t) (hl : t.lnk = s.lnk) (hd : t.nothingDue) :
    exec (.encoderEdge ch level e) s = .next t.sends := by
  rw [exec_encoderEdge]
  exact inService_of_posted _ (s := s.atEdge ch level e) h ht hl hd

/-- An edge that posts nothing and leaves the link alone settles at once. -/
theorem exec_edge_unposted {s t : State} {ch : Channel} {level : Bool} {e : Nat} (h : s.atRest)
    (ht : edge ch level (s.atEdge ch level e) = t) (hl : t.lnk = s.lnk) (hq : t.rpq = s.rpq) (hd : t.nothingDue) :
    exec (.encoderEdge ch level e) s = .next t := by
  rw [exec_encoderEdge]
  exact inService_of_unposted _ (s := s.atEdge ch level e) h ht hl hq hd

theorem edge_calibrating (h : s.ict.state = .calibrating) :
    edge ch level (s.atEdge ch level e) = s.accepted ch level e := (if_pos h).trans atEdge_accept

theorem edge_ignored (h : s.ict.state ≠ .calibrating) (hi : s.edgeIgnored e) :
    edge ch level (s.atEdge ch level e) = occur .encoderGlitch none none (s.atEdge ch level e) :=
  (if_neg h).trans (if_pos (glitch_iff.mpr hi))

/-- An accepted edge counts as the step between the accepted pairs does. -/
theorem edge_of_accepted (s : State) (h : s.ict.state ≠ .calibrating) (hg : s.enc.glitch s.now = false) :
    edge ch level s =
      (countOf s.enc.settings.direction (s.enc.levelA, s.enc.levelB)
        ((s.enc.accept ch level s.now).levelA, (s.enc.accept ch level s.now).levelB)).act
        { s with enc := s.enc.accept ch level s.now } := by
  simp only [edge, if_neg h, hg, Bool.false_eq_true, if_false]
  split <;> rename_i hc <;> rw [hc] <;> rfl

theorem edge_counted (h : s.ict.state ≠ .calibrating) (hi : ¬s.edgeIgnored e) :
    edge ch level (s.atEdge ch level e) =
      (countOf s.enc.settings.direction (s.enc.levelA, s.enc.levelB) (s.pairAfter ch level)).act
        (s.accepted ch level e) := by
  rw [edge_of_accepted (s.atEdge ch level e) h (Bool.eq_false_iff.mpr (mt (glitch_iff (s := s)).mp hi))]
  cases ch <;> rfl

theorem edge_forward (h : s.edgeForward ch level e) :
    edge ch level (s.atEdge ch level e) = forwardCount (s.accepted ch level e) := by
  rw [edge_counted h.1 h.2.1, countOf_edgeForward h]
  rfl

theorem edge_reverse (h : s.edgeReverse ch level e) :
    edge ch level (s.atEdge ch level e) = reverseCount (s.accepted ch level e) := by
  rw [edge_counted h.1 h.2.1, countOf_edgeReverse h]
  rfl

/-! ## Forward counts (R4) -/

theorem forwardCount_lag (s : State) (h : 0 < s.enc.lag) :
    forwardCount s = { s with enc := { s.enc with lag := s.enc.lag - 1 } } := if_pos h

theorem forwardCount_short (s : State) (h : s.enc.lag = 0) (hw : s.enc.highWater + 1 < s.enc.settings.countsPerLine) :
    forwardCount s = { s with enc := { s.enc with highWater := s.enc.highWater + 1 } } :=
  (if_neg (by omega)).trans (if_pos hw)

theorem forwardCount_completes (s : State) (h : s.enc.lag = 0) (hw : s.enc.settings.countsPerLine ≤ s.enc.highWater + 1) :
    forwardCount s = lineTrigger { s with enc := { s.enc with highWater := 0 } } :=
  (if_neg (by omega)).trans (if_neg (by omega))

end Sys2Proof.Machine
end

section
/-! PROOFS. What an issued line does in LAS, when no head is late. -/

namespace Sys2Proof.Machine

/-! ## A new target for heads that owe no slot (R25) -/

/-- A head owes no slot: it is not late when a line comes. -/
def Head.owesNoSlot (h : Head) : Prop :=
  h.delivery = .idle ∨ h.delivery = .waiting .dropped ∨ h.delivery = .discarding none ∨
    h.delivery = .discarding (some .dropped)

/-- A head after a new target has reached it, when it is enabled. -/
def Head.given (t : Target) (h : Head) : Head :=
  if h.settings.enabled then
    match h.delivery with
    | .discarding _ => { h with delivery := .discarding (some t) }
    | _ => { h with delivery := .waiting t }
  else h

theorem headsGiven_eq_map (t : Target) (heads : List Head) : headsGiven t heads = heads.map (Head.given t) := rfl

/-- A target that stands reaches an enabled head that owes no slot. -/
theorem passTarget_of_ready {t : Target} {h : Nat} {s : State} (ht : s.las.liveTarget t = t)
    (he : (s.las.head h).settings.enabled = true) (hr : (s.las.head h).owesNoSlot) :
    passTarget t h s = s.setHead h ((s.las.head h).given t) := by
  rcases hr with hr | hr | hr | hr <;>
    simp [passTarget, hr, setDelivery, ht, Delivery.owing, Head.given, he]

/-- The heads once the target has reached those below `n`. -/
def headsGivenBelow (t : Target) (n : Nat) (heads : List Head) : List Head :=
  heads.mapIdx fun i h => if i < n then h.given t else h

theorem headsGivenBelow_zero (t : Target) (heads : List Head) : headsGivenBelow t 0 heads = heads := by
  refine List.ext_getElem (by simp [headsGivenBelow]) fun i _ _ => by simp [headsGivenBelow]

theorem headsGivenBelow_length (t : Target) (heads : List Head) :
    headsGivenBelow t heads.length heads = headsGiven t heads := by
  rw [headsGiven_eq_map]
  refine List.ext_getElem (by simp [headsGivenBelow]) fun i hi _ => ?_
  have : i < heads.length := by simpa [headsGivenBelow] using hi
  simp [headsGivenBelow, this]

/-- The next head takes the target. -/
theorem headsGivenBelow_succ (t : Target) (n : Nat) (heads : List Head) (hn : n < heads.length) :
    headsGivenBelow t (n + 1) heads = (headsGivenBelow t n heads).set n (heads[n].given t) := by
  refine List.ext_getElem (by simp [headsGivenBelow]) fun i hi _ => ?_
  simp only [headsGivenBelow, List.getElem_mapIdx, List.getElem_set]
  by_cases h : n = i
  · subst h
    simp
  · have : i < n + 1 ↔ i < n := by omega
    simp [h, this]

/-- A disabled head is passed over. -/
theorem headsGivenBelow_succ_disabled (t : Target) (n : Nat) (heads : List Head) (hn : n < heads.length)
    (he : heads[n].settings.enabled ≠ true) : headsGivenBelow t (n + 1) heads = headsGivenBelow t n heads := by
  rw [headsGivenBelow_succ t n heads hn, Head.given, if_neg he]
  refine List.ext_getElem (by simp) fun i hi _ => ?_
  rw [List.getElem_set]
  split
  · next h => subst h; simp [headsGivenBelow]
  · rfl

/-- The target reaches the enabled heads below `n`, lowest index first. -/
theorem passTargets_below {t : Target} {s : State} (ht : s.las.liveTarget t = t)
    (hr : ∀ h ∈ s.las.heads, h.settings.enabled = true → h.owesNoSlot) (n : Nat) (hn : n ≤ s.las.heads.length) :
    ((List.range n).filter (fun h => (s.las.head h).settings.enabled)).foldl (fun s h => passTarget t h s) s =
      { s with las := { s.las with heads := headsGivenBelow t n s.las.heads } } := by
  induction n with
  | zero => simp [headsGivenBelow_zero]
  | succ n ih =>
    have hn' : n < s.las.heads.length := hn
    have hs : s.las.head n = s.las.heads[n] := by simp [Las.head, hn']
    rw [List.range_succ, List.filter_append, List.foldl_append, ih (Nat.le_of_lt hn')]
    by_cases he : s.las.heads[n].settings.enabled = true
    · have hu : Las.head { s.las with heads := headsGivenBelow t n s.las.heads } n = s.las.heads[n] := by
        simp [Las.head, headsGivenBelow, hn']
      rw [List.filter_singleton, hs, he, headsGivenBelow_succ t n _ hn']
      refine (passTarget_of_ready (s := { s with las := { s.las with heads := headsGivenBelow t n s.las.heads } })
        ht (by rw [hu, he]) (by rw [hu]; exact hr _ (List.getElem_mem hn') he)).trans ?_
      rw [hu]
      rfl
    · rw [List.filter_singleton, hs, headsGivenBelow_succ_disabled t n _ hn' he]
      simp [he]

/-- A target that stands reaches every enabled head, when none owes a slot. -/
theorem passToHeads_of_ready {t : Target} {s : State} (h4 : s.las.heads.length = 4) (ht : s.las.liveTarget t = t)
    (hr : ∀ h ∈ s.las.heads, h.settings.enabled = true → h.owesNoSlot) :
    passToHeads t s = { s with las := { s.las with heads := headsGiven t s.las.heads } } := by
  rw [← headsGivenBelow_length, h4]
  exact passTargets_below ht hr 4 (le_of_eq h4.symm)

/-! ## A line for LAS (R23, R24) -/

theorem freeSlot_of_freeSlotIs {s : State} {i : Nat} (h : s.freeSlotIs i) : s.las.freeSlot = some i := by
  obtain ⟨hi, hf, hb⟩ := h
  simp only [Las.freeSlot, List.find?_range_eq_some]
  exact ⟨by simp [hf], by simpa using hi, fun j hj => by simpa using hb j hj⟩

theorem freeSlot_of_full {s : State} (h : ∀ j < 8, (s.las.slot j).state ≠ .free) : s.las.freeSlot = none := by
  simpa [Las.freeSlot] using h

/-- A line claims the lowest FREE slot, and no head is late. -/
theorem takeLine_claims {s : State} {i : Nat} (kind : LineKind) (number : Nat) (suppressed : Bool) (hi : s.freeSlotIs i)
    (hr : s.headsReady) :
    takeLine kind number suppressed s = { s with las := s.lasWithLine i kind number suppressed } := by
  obtain ⟨h4, h8, hn⟩ := hr
  simp only [takeLine, freeSlot_of_freeSlotIs hi]
  refine (passToHeads_of_ready ?_ ?_ ?_).trans rfl
  · exact h4
  · simp [Las.liveTarget, Las.slot, h8, hi.1]
  · exact hn

/-- A line that finds no FREE slot is dropped, with a LINE_OVERRUN that is taken, and no head is late. -/
theorem takeLine_drops {s : State} (kind : LineKind) (number : Nat) (suppressed : Bool)
    (hf : ∀ j < 8, (s.las.slot j).state ≠ .free) (hr : s.headsReady) (ht : s.takes .lineOverrun) :
    takeLine kind number suppressed s =
      State.withOccurrence { s with las := s.lasWithDropped kind } .lineOverrun none none := by
  obtain ⟨h4, -, hn⟩ := hr
  simp only [takeLine, freeSlot_of_full hf]
  rw [occur_of_takes _ _ _ _ (by exact ht), State.withOccurrence_setLas]
  refine (passToHeads_of_ready ?_ rfl ?_).trans (State.withOccurrence_setLas ..).symm
  · exact h4
  · exact hn

end Sys2Proof.Machine
end

section
/-! PROOFS. Line triggers: the web state, the numbering and suppression of lines, and the line limit. -/

namespace Sys2Proof.Machine

/-! ## The web state at a line trigger (R9, R10) -/

/-- ENC once the web state has taken a line trigger event. -/
def Enc.webMoves (e : Enc) (now : Nat) : Enc := { e.restartStandstill now with web := .moving }

/-- The part once the web state has taken a line trigger event in RUNNING, a halted web with its RESUMED report. -/
def State.webTaken (s : State) (line : Nat) : State :=
  let t : State := { s with enc := s.enc.webMoves s.now }
  if s.enc.web = .halted then t.withReport (.web (some (s.enc.standstillMs s.now)) line) else t

theorem webMoves_of_moving (e : Enc) (now : Nat) (h : e.web = .moving) : e.webMoves now = e.restartStandstill now := by
  cases e
  cases h
  rfl

theorem webTrigger_unreported (line : Nat) {s : State} (h : s.ict.state ≠ .running) :
    webTrigger line s = { s with enc := s.enc.webMoves s.now } := by
  unfold webTrigger
  split
  · next hw => rw [webMoves_of_moving _ _ hw]
  · exact if_neg h

theorem webTrigger_running (line : Nat) {s : State} (h : s.ict.state = .running) (hr : s.enc.web = .halted → s.room .web) :
    webTrigger line s = s.webTaken line := by
  unfold webTrigger State.webTaken
  split
  · next hw => rw [if_neg (by simp [hw]), webMoves_of_moving _ _ hw]
  · next hw =>
    rw [if_pos hw]
    exact (if_pos h).trans (post_room { s with enc := s.enc.webMoves s.now } _ none (hr hw))

/-- The web state's part of a trigger changes ENC and the report queue alone. -/
theorem State.webTaken_eq (s : State) (line : Nat) :
    ∃ rpq, s.webTaken line = { s with enc := s.enc.webMoves s.now, rpq := rpq } := by
  simp only [State.webTaken]
  split
  · exact ⟨_, rfl⟩
  · exact ⟨s.rpq, rfl⟩

@[simp] theorem State.webTaken_lnk (s : State) (line : Nat) : (s.webTaken line).lnk = s.lnk := by
  obtain ⟨_, h⟩ := s.webTaken_eq line
  rw [h]

@[simp] theorem State.webTaken_las (s : State) (line : Nat) : (s.webTaken line).las = s.las := by
  obtain ⟨_, h⟩ := s.webTaken_eq line
  rw [h]

@[simp] theorem State.webTaken_ict (s : State) (line : Nat) : (s.webTaken line).ict = s.ict := by
  obtain ⟨_, h⟩ := s.webTaken_eq line
  rw [h]

/-! ## The numbering and suppression of lines (R5, R7, R14) -/

/-- The suppression count that the line being issued finds: reloaded by a pending splice mark. -/
def Enc.suppressCount (e : Enc) : Nat := if e.splicePending then e.settings.spliceLines else e.suppression

/-- ENC once a line has been numbered and marked. -/
def Enc.lineTaken (e : Enc) : Enc :=
  { e with
    nextLine := if e.nextLine = Config.lastLineNumber then e.nextLine else e.nextLine + 1
    lineLimit := decide (e.nextLine = Config.lastLineNumber), splicePending := false, suppression := e.suppressCount - 1 }

theorem suppress_eq (e : Enc) :
    e.suppress = ({ e with splicePending := false, suppression := e.suppressCount - 1 }, decide (0 < e.suppressCount)) := by
  by_cases h : 0 < e.suppressCount
  · rw [decide_eq_true h]
    exact if_pos h
  · rw [decide_eq_false h, Nat.sub_eq_zero_of_le (by omega)]
    exact if_neg h

theorem advance_eq (e : Enc) (hl : e.lineLimit = false) (hn : e.nextLine ≤ Config.lastLineNumber) :
    e.advance =
      { e with
        nextLine := if e.nextLine = Config.lastLineNumber then e.nextLine else e.nextLine + 1
        lineLimit := decide (e.nextLine = Config.lastLineNumber) } := by
  unfold Enc.advance
  by_cases h : e.nextLine = Config.lastLineNumber
  · rw [if_neg (by omega), if_pos h, decide_eq_true h]
  · rw [if_pos (by omega), if_neg h, decide_eq_false h, ← hl]

theorem advance_suppress (e : Enc) (hl : e.lineLimit = false) (hn : e.nextLine ≤ Config.lastLineNumber) :
    e.advance.suppress = (e.lineTaken, decide (0 < e.suppressCount)) := by
  rw [advance_eq e hl hn, suppress_eq]
  rfl

/-! ## The line trigger event (R5) -/

/-- The part once ENC has issued a line and the web state has taken the trigger, before LAS takes the line. -/
def State.lineOut (s : State) : State := State.webTaken (State.pulse { s with enc := s.enc.lineTaken }) s.enc.nextLine

@[simp] theorem State.lineOut_lnk (s : State) : s.lineOut.lnk = s.lnk := State.webTaken_lnk ..
@[simp] theorem State.lineOut_las (s : State) : s.lineOut.las = s.las := State.webTaken_las ..
@[simp] theorem State.lineOut_ict (s : State) : s.lineOut.ict = s.ict := State.webTaken_ict ..

/-- Outside RUNNING, and once the line limit is reached, the event acts on the web state alone. -/
theorem lineTrigger_unissued {s : State} (h : ¬(s.ict.state = .running ∧ s.enc.lineLimit = false)) :
    lineTrigger s = webTrigger s.enc.nextLine s := if_neg h

/-- In RUNNING below the line limit a line is issued, and LAS takes it. -/
theorem lineTrigger_issued {s : State} (hs : s.ict.state = .running) (hl : s.enc.lineLimit = false)
    (hn : s.enc.nextLine ≤ Config.lastLineNumber) (hw : s.enc.web = .halted → s.room .web) :
    lineTrigger s =
      let t := takeLine .run s.enc.nextLine (decide (0 < s.enc.suppressCount)) s.lineOut
      if s.enc.nextLine = Config.lastLineNumber then limitNotice s.las.freeSlot.isNone t else t := by
  have ht : webTrigger s.enc.nextLine (State.pulse { s with enc := s.enc.lineTaken }) = s.lineOut :=
    webTrigger_running _ hs hw
  simp only [lineTrigger, advance_suppress _ hl hn, ht, State.lineOut_las, hs, hl, and_self, if_true]

/-- In RUNNING the line limit notice leaves its stop pending, or begins it when the line was dropped (R7, R175). -/
theorem limitNotice_taken {s : State} (h : s.ict.state = .running) :
    limitNotice false s = { s with ict := { s.ict with limitPending := true } } := if_pos h

theorem limitNotice_dropped {s : State} (h : s.ict.state = .running) : limitNotice true s = beginStop .lineLimit s :=
  if_pos h

/-- The line claims a slot; the last line of a run's numbers leaves its stop pending (R175). -/
theorem lineTrigger_claims {s : State} {i : Nat} (hs : s.ict.state = .running) (hl : s.enc.lineLimit = false)
    (hn : s.enc.nextLine ≤ Config.lastLineNumber) (hw : s.enc.web = .halted → s.room .web) (hi : s.freeSlotIs i)
    (hr : s.headsReady) :
    lineTrigger s =
      let t : State := { s.lineOut with las := s.lasWithLine i .run s.enc.nextLine (decide (0 < s.enc.suppressCount)) }
      if s.enc.nextLine = Config.lastLineNumber then { t with ict := { t.ict with limitPending := true } } else t := by
  have hlas : s.lineOut.las = s.las := s.lineOut_las
  rw [lineTrigger_issued hs hl hn hw,
    takeLine_claims (i := i) _ _ _ (by simpa only [State.freeSlotIs, hlas] using hi)
      (by simpa only [State.headsReady, hlas] using hr), freeSlot_of_freeSlotIs hi]
  have hc : s.lineOut.lasWithLine i .run s.enc.nextLine (decide (0 < s.enc.suppressCount)) =
      s.lasWithLine i .run s.enc.nextLine (decide (0 < s.enc.suppressCount)) := by
    simp only [State.lasWithLine, hlas]
  rw [hc]
  exact if_congr Iff.rfl (limitNotice_taken ((congrArg Ict.state s.lineOut_ict).trans hs)) rfl

/-- The part once LAS has dropped an issued line, with its LINE_OVERRUN. -/
def State.lineDropped (s : State) : State :=
  State.withOccurrence { s.lineOut with las := s.lasWithDropped .run } .lineOverrun none none

@[simp] theorem State.lineDropped_lnk (s : State) : s.lineDropped.lnk = s.lnk :=
  (State.withOccurrence_lnk ..).trans s.lineOut_lnk
@[simp] theorem State.lineDropped_las (s : State) : s.lineDropped.las = s.lasWithDropped .run := State.withOccurrence_las ..
@[simp] theorem State.lineDropped_state (s : State) : s.lineDropped.ict.state = s.ict.state :=
  (State.withOccurrence_state ..).trans (congrArg Ict.state s.lineOut_ict)

/-- The line is dropped for want of a FREE slot; the last line of a run's numbers then stops the run (R7, R175). -/
theorem lineTrigger_drops {s : State} (hs : s.ict.state = .running) (hl : s.enc.lineLimit = false)
    (hn : s.enc.nextLine ≤ Config.lastLineNumber) (hw : s.enc.web = .halted → s.room .web)
    (hf : ∀ j < 8, (s.las.slot j).state ≠ .free) (hr : s.headsReady)
    (ht : s.lineOut.takes .lineOverrun) :
    lineTrigger s =
      if s.enc.nextLine = Config.lastLineNumber then beginStop .lineLimit s.lineDropped else s.lineDropped := by
  have hlas : s.lineOut.las = s.las := s.lineOut_las
  have hd : s.lineOut.lasWithDropped .run = s.lasWithDropped .run := by simp only [State.lasWithDropped, hlas]
  rw [lineTrigger_issued hs hl hn hw, takeLine_drops _ _ _ (by rw [hlas]; exact hf)
    (by simpa only [State.headsReady, hlas] using hr) ht, freeSlot_of_full hf, hd]
  exact if_congr Iff.rfl (limitNotice_dropped (s.lineDropped_state.trans hs)) rfl

end Sys2Proof.Machine
end

section
/-! PROOFS. The line that a completed pitch issues. -/

namespace Sys2Proof.Machine

/-! ## The count that completes a line pitch -/

/-- The part after an accepted edge whose count completes a line pitch, before the line trigger event. -/
def State.atPitch (s : State) (ch : Channel) (level : Bool) (e : Nat) : State :=
  { s.atEdge ch level e with enc := { s.encAfter ch level e with highWater := 0 } }

theorem edge_completes {s : State} {ch : Channel} {level : Bool} {e : Nat} (h : s.edgeForward ch level e)
    (hl : s.enc.lag = 0) (hw : s.enc.settings.countsPerLine ≤ s.enc.highWater + 1) :
    edge ch level (s.atEdge ch level e) = lineTrigger (s.atPitch ch level e) :=
  (edge_forward h).trans (forwardCount_completes _ hl hw)

/-- LAS is no part of what ENC and the web state do at a trigger. -/
theorem State.lineOut_setLas (s : State) (las : Las) :
    { s.lineOut with las := las } = State.lineOut { s with las := las } := by
  by_cases hw : s.enc.web = .halted
  · exact (congrArg (fun t : State => { t with las := las }) (if_pos hw)).trans (if_pos hw).symm
  · exact (congrArg (fun t : State => { t with las := las }) (if_neg hw)).trans (if_neg hw).symm

theorem lineOut_state (s : State) : s.lineOut.ict.state = s.ict.state := congrArg Ict.state s.lineOut_ict

section
variable {s : State} {ch : Channel} {level : Bool} {e : Nat} (h : s.atRest) (hf : s.edgeForward ch level e)
  (hlag : s.enc.lag = 0) (hw : s.enc.settings.countsPerLine ≤ s.enc.highWater + 1)
include h hf hlag hw

/-- Outside RUNNING the count acts on the web state alone, without a report. -/
theorem exec_edge_unreported (hs : s.ict.state ≠ .running) :
    exec (.encoderEdge ch level e) s =
      .next { s.atPitch ch level e with enc := (s.atPitch ch level e).enc.webMoves (s.now + e) } := by
  refine exec_edge_unposted h ((edge_completes hf hlag hw).trans ?_) rfl rfl
    (State.nothingDue_congr h.2.1 rfl rfl rfl rfl)
  exact (lineTrigger_unissued (s := s.atPitch ch level e) fun hn => hs hn.1).trans
    (webTrigger_unreported (s := s.atPitch ch level e) _ hs)

variable (hs : s.ict.state = .running) (hroom : s.enc.web = .halted → s.room .web)
include hs hroom

/-- Past the line limit the count acts on the web state alone. -/
theorem exec_edge_pastLimit (hl : s.enc.lineLimit = true) :
    exec (.encoderEdge ch level e) s = .next ((s.atPitch ch level e).webTaken s.enc.nextLine).sends := by
  refine exec_edge_posted h ((edge_completes hf hlag hw).trans ?_) (State.webTaken_lnk ..)
    (State.nothingDue_of_running ((congrArg Ict.state (State.webTaken_ict ..)).trans hs))
  refine (lineTrigger_unissued fun hn => ?_).trans (webTrigger_running _ hs hroom)
  exact absurd (hl.symm.trans hn.2) (by decide)

variable (hl : s.enc.lineLimit = false) (hn : s.enc.nextLine ≤ Config.lastLineNumber) (hr : s.headsReady)
include hl hn hr

/-- A line with a FREE slot to claim. -/
theorem exec_edge_claims {i : Nat} (hi : s.freeSlotIs i) :
    exec (.encoderEdge ch level e) s =
      .next
        (let t : State :=
          { (s.atPitch ch level e).lineOut with
            las := s.lasWithLine i .run s.enc.nextLine (decide (0 < s.enc.suppressCount)) }
        if s.enc.nextLine = Config.lastLineNumber then { t with ict := { t.ict with limitPending := true } }
        else t).sends := by
  have hline := lineTrigger_claims (s := s.atPitch ch level e) hs hl hn hroom hi hr
  have hlnk := (s.atPitch ch level e).lineOut_lnk
  have hstate := (lineOut_state (s.atPitch ch level e)).trans hs
  refine exec_edge_posted h ((edge_completes hf hlag hw).trans hline) ?_ (State.nothingDue_of_running ?_)
  · split <;> exact hlnk
  · split <;> exact hstate

variable (hfull : ∀ j < 8, (s.las.slot j).state ≠ .free) (ht : (s.atPitch ch level e).lineOut.takes .lineOverrun)
include hfull ht

/-- A line dropped for want of a FREE slot. -/
theorem exec_edge_drops (hlt : s.enc.nextLine < Config.lastLineNumber) :
    exec (.encoderEdge ch level e) s = .next (s.atPitch ch level e).lineDropped.sends := by
  have hline := lineTrigger_drops (s := s.atPitch ch level e) hs hl hn hroom hfull hr ht
  exact exec_edge_posted h ((edge_completes hf hlag hw).trans (hline.trans (if_neg (Nat.ne_of_lt hlt))))
    (State.lineDropped_lnk _) (State.nothingDue_of_running ((State.lineDropped_state _).trans hs))

/-- The last line dropped, while another line is in processing, which keeps the STOP procedure waiting. -/
theorem exec_edge_drops_last (heq : s.enc.nextLine = Config.lastLineNumber) (hp : s.las.processing ≠ none)
    (hstate : (s.atPitch ch level e).lineDropped.room .state) :
    let u := (s.atPitch ch level e).lineDropped
    exec (.encoderEdge ch level e) s =
      .next (State.withReport
        { u with ict := { u.ict with state := .stopping, lastStop := .lineLimit, limitPending := false } }
        (.state .stopping .lineLimit)).sends := by
  have hline := lineTrigger_drops (s := s.atPitch ch level e) hs hl hn hroom hfull hr ht
  have hlas := (s.atPitch ch level e).lineDropped_las
  refine exec_edge_posted h
    ((edge_completes hf hlag hw).trans (hline.trans ((if_pos heq).trans (beginStop_room _ _ hstate))))
    (State.lineDropped_lnk _) (State.nothingDue_of_processing (show Inspection.stopping ≠ .calibrating by decide) ?_)
  exact fun hnone => hp ((congrArg Las.processing hlas).symm.trans hnone)

end

end Sys2Proof.Machine
end

section
/-! PROOFS. The internal line timer of a calibration. -/

namespace Sys2Proof.Machine

/-! ## When a calibration is not due (R49) -/

theorem calibrationDue_of_remaining (r : CalRecord) {s : State} (h : s.enc.calRemaining ≠ 0) : calibrationDue r s = false := by
  simp [calibrationDue, h]

/-- A calibration slot in use bars the completion while the close-out wait has not expired. -/
theorem calibrationDue_of_slot {r : CalRecord} {s : State} (hr : r.closeOut ≠ .expired) {sl : Slot} (hm : sl ∈ s.las.slots)
    (hk : sl.kind = .calibration) (hu : sl.state ≠ .free) : calibrationDue r s = false := by
  have hexp : (r.closeOut == .expired) = false := by simpa using hr
  cases hst : sl.state with
  | free => exact absurd hst hu
  | assembling =>
    have : s.las.slots.all (fun sl => !assemblingCalibration sl) = false :=
      List.all_eq_false.mpr ⟨sl, hm, by simp [assemblingCalibration, hst, hk]⟩
    simp [calibrationDue, this, hexp]
  | complete =>
    have : s.las.slots.all (fun sl => !(sl.state == .complete && sl.kind == .calibration)) = false :=
      List.all_eq_false.mpr ⟨sl, hm, by simp [hst, hk]⟩
    simp only [calibrationDue, this, Bool.and_false, Bool.false_and]

/-! ## The expiry of the line timer (R8) -/

/-- The next period of the line timer starts. -/
def State.nextPeriod (u : State) (t : Nat) : State :=
  { u with enc := { u.enc with calRemaining := u.enc.calRemaining - 1, calExpiry := some (t + u.enc.calPeriod) } }

/-- The line timer stops, and the close-out wait of a calibration record starts. -/
def State.startCloseOut (u : State) (t : Nat) (r : CalRecord) : State :=
  { u with
    enc := { u.enc with calRemaining := 0, calExpiry := none }
    ffc := { u.ffc with record := some { r with closeOut := .running (t + u.enc.calPeriod) } } }

section
variable {s u : State} {t : Nat} (ht : s.enc.calExpiry = some t)
  (hu : takeLine .calibration 0 false (s.reach t).pulse = u) (ha : u.ffc.active = true)
include ht hu ha

theorem calibrationExpiry_period (hr : 1 < u.enc.calRemaining) : calibrationExpiry s = u.nextPeriod t := by
  simp only [calibrationExpiry, ht, hu]
  rw [if_neg (by simp [ha]), if_pos (show 0 < u.enc.calRemaining - 1 by omega)]
  rfl

theorem calibrationExpiry_last {r : CalRecord} (hrec : u.ffc.record = some r) (hr : u.enc.calRemaining = 1) :
    calibrationExpiry s = u.startCloseOut t r := by
  simp only [calibrationExpiry, ht, hu]
  rw [if_neg (by simp [ha]), if_neg (show ¬0 < u.enc.calRemaining - 1 by omega), hrec]
  rfl

end

theorem nothingDue_nextPeriod {u : State} (t : Nat) (h : u.ict.state = .calibrating) (hr : 1 < u.enc.calRemaining) :
    (u.nextPeriod t).nothingDue :=
  State.nothingDue_of_calibrating h fun _ _ => calibrationDue_of_remaining _ (by simp only [State.nextPeriod]; omega)

theorem nothingDue_startCloseOut {u : State} (t : Nat) (r : CalRecord) (h : u.ict.state = .calibrating) {sl : Slot}
    (hm : sl ∈ u.las.slots) (hk : sl.kind = .calibration) (hs : sl.state ≠ .free) : (u.startCloseOut t r).nothingDue := by
  refine State.nothingDue_of_calibrating h fun q hq => ?_
  obtain rfl := Option.some.inj hq
  exact calibrationDue_of_slot (fun hc => CloseOut.noConfusion hc) hm hk hs

end Sys2Proof.Machine
end

section
/-! PROOFS. The values after a power-on reset, the standstill timer, and SET_ENCODER. -/

namespace Sys2Proof.Machine

/-! ## The collections after a power-on reset: every place of each holds the same -/

theorem reset_head (h : Nat) : State.reset.las.head h = Head.reset := List.getElem?_getD_replicate_default_eq _ _ _

theorem reset_slot (i : Nat) : State.reset.las.slot i = Slot.blank := List.getElem?_getD_replicate_default_eq _ _ _

theorem reset_lane (i : Nat) : lane State.reset i = Lane.reset := List.getElem?_getD_replicate_default_eq _ _ _

theorem reset_track (i : Nat) : State.reset.track i = Track.blank := List.getElem?_getD_replicate_default_eq _ _ _

theorem reset_pool : State.reset.cls.pool = List.range 1024 := by
  simp only [State.reset, Cls.reset]

/-! ## The standstill timer (R10) -/

/-- The web after the expiry of its standstill timer, before any report. -/
def State.stoodStill (s : State) (t : Nat) : State :=
  { s with
    now := max s.now t
    enc := { s.enc with web := .halted, standstillExpiry := none, standstillStart := max s.now t } }

theorem standstillExpiry_unreported {s : State} {t : Nat} (ht : s.enc.standstillExpiry = some t)
    (hs : s.ict.state ≠ .running) : standstillExpiry s = s.stoodStill t := by
  simp only [standstillExpiry, ht]
  exact if_neg hs

theorem standstillExpiry_reported {s : State} {t : Nat} (ht : s.enc.standstillExpiry = some t)
    (hs : s.ict.state = .running) (hr : s.room .web) :
    standstillExpiry s = (s.stoodStill t).withReport (.web none s.enc.nextLine) := by
  simp only [standstillExpiry, ht]
  exact (if_pos hs).trans (post_room (s.stoodStill t) (.web none s.enc.nextLine) none hr)

/-! ## SET_ENCODER (R15) -/

theorem handle_setEncoder_badValue {s : State} {f : List Nat} {i : Nat} (tag : Byte)
    (hf : fitsWidths Request.setEncoder.fieldWidths f) (hi : firstBad (setEncoderChecks f) i) :
    handle .setEncoder tag (fieldBytes Request.setEncoder.fieldWidths f) s = s.badValue tag .setEncoder i := by
  simp only [handle, readFields_fieldBytes hf, handleSetEncoder, firstFailing_of_firstBad hi]

theorem handle_setEncoder_taken {s : State} {f : List Nat} (tag : Byte)
    (hf : fitsWidths Request.setEncoder.fieldWidths f) (hok : allOk (setEncoderChecks f)) :
    handle .setEncoder tag (fieldBytes Request.setEncoder.fieldWidths f) s =
      State.withReply { s with enc := { s.enc with settings := encSettingsOf f, highWater := 0, lag := 0 } } tag
        (.done (.setEncoder (encSettingsOf f))) := by
  simp only [handle, readFields_fieldBytes hf, handleSetEncoder, firstFailing_of_allOk hok, State.done_eq_withReply]

/-- The five fields that carry some settings (Table VI). -/
def EncSettings.fields (c : EncSettings) : List Nat :=
  [c.countsPerLine, c.glitchWindow, c.standstillTimeout, c.spliceLines, if c.direction = .aLeads then 0 else 1]

theorem encSettingsOf_fields (c : EncSettings) : encSettingsOf c.fields = c := by
  obtain ⟨_, _, _, _, direction⟩ := c
  cases direction <;> rfl

/-- Settings in their ranges fit their fields and pass their checks. -/
theorem EncSettings.fields_ok {c : EncSettings} (hc : 1 ≤ c.countsPerLine ∧ c.countsPerLine ≤ 4096)
    (hw : c.glitchWindow ≤ 255) (ht : 1 ≤ c.standstillTimeout ∧ c.standstillTimeout ≤ 2000) (hl : c.spliceLines ≤ 4096) :
    fitsWidths Request.setEncoder.fieldWidths c.fields ∧ allOk (setEncoderChecks c.fields) := by
  have hdir : (if c.direction = .aLeads then 0 else 1) ≤ 1 := by split <;> decide
  refine ⟨⟨rfl, ?_⟩, ?_⟩
  · simp only [EncSettings.fields, Request.fieldWidths, List.zip_cons_cons, List.zip_nil_right, List.forall_mem_cons,
      List.not_mem_nil, false_imp_iff, implies_true, and_true]
    omega
  · simp [allOk, EncSettings.fields, setEncoderChecks, inRange, isCode2, hc, hw, ht, hl, hdir]

/-- ENC's settings and marks are no part of what a listening part must be. -/
theorem State.listening.rests_withEnc {s : State} (h : s.listening) (enc : Enc)
    (hc : enc.calRemaining = s.enc.calRemaining) (tag : Byte) (b : ReplyBody) :
    (State.withReply { s with enc := enc } tag b).rests := by
  obtain ⟨-, hj, hcl⟩ := h.rests_withReply tag b
  exact ⟨State.nothingDue_congr (s := s) h.1.2.1 rfl rfl rfl hc, hj, hcl⟩

end Sys2Proof.Machine
end

section
/-! PROOFS. The statements on web position and line triggering. -/

namespace Sys2Proof.WebPosition

open Sys2Proof.Machine

/-- Settles O23: an edge is taken by the inspection state, the glitch window and the step between the accepted pairs, and a count that
completes no line pitch moves ENC alone. -/
theorem encoderCounts : Obligations.EncoderCounts := by
  refine ⟨fun queue a b e he => ⟨?_, ?_⟩, fun s ch level e h => ?_⟩
  · rw [arrive_last _ _ _ _ (.inl rfl), arrive_before]
  · rw [arrive_last _ _ _ _ (.inr he), arrive_last _ _ _ _ (.inl rfl), List.append_assoc]
    rfl
  have due {t : State} (hi : t.ict = s.ict) (hl : t.las = s.las) (hf : t.ffc = s.ffc)
      (hc : t.enc.calRemaining = s.enc.calRemaining) : t.nothingDue :=
    State.nothingDue_congr h.2.1 (by rw [hi]) hl hf hc
  refine ⟨fun hs => ?_, fun hs hi ht => ?_, fun hs hi hp => ?_, fun hr => ?_, fun hf hl => ?_, fun hf hl hw => ?_⟩
  · exact exec_edge_unposted h (edge_calibrating hs) rfl rfl (due rfl rfl rfl rfl)
  · refine exec_edge_posted h ((edge_ignored hs hi).trans (occur_of_takes (s.atEdge ch level e) _ _ _ ht))
      (State.withOccurrence_lnk ..) (State.nothingDue_congr h.2.1 (State.withOccurrence_state ..) (State.withOccurrence_las ..)
        (State.withOccurrence_ffc ..) (congrArg Enc.calRemaining (State.withOccurrence_enc ..)))
  · refine exec_edge_unposted h ?_ rfl rfl (due rfl rfl rfl rfl)
    rw [edge_counted hs hi, hp, countOf_same]
    rfl
  · exact exec_edge_unposted h (edge_reverse hr) rfl rfl (due rfl rfl rfl rfl)
  · exact exec_edge_unposted h ((edge_forward hf).trans (forwardCount_lag _ hl)) rfl rfl (due rfl rfl rfl rfl)
  · exact exec_edge_unposted h ((edge_forward hf).trans (forwardCount_short _ hl hw)) rfl rfl (due rfl rfl rfl rfl)

/-- Settles O24: a count that completes the pitch is a line trigger event; ENC issues the line and the web state takes the event, and
LAS claims a slot or drops the line. -/
theorem lineIssued : Obligations.LineIssued := by
  intro s ch level e i h hf hlag hw hroom count base enc
  refine ⟨fun hs => exec_edge_unreported h hf hlag hw hs, ?_⟩
  intro resumed issued
  have hout (las : Las) : { (s.atPitch ch level e).lineOut with las := las } = issued las := by
    refine (State.lineOut_setLas (s.atPitch ch level e) las).trans ?_
    cases ch <;> rfl
  refine ⟨fun hs hl => ?_, fun hs hl hn hi hr => ?_, fun hs hl hn hfull hr => ?_⟩
  · exact exec_edge_pastLimit h hf hlag hw hs (hroom hs) hl
  · rw [← hout]
    exact exec_edge_claims h hf hlag hw hs (hroom hs) hl hn hr hi
  · intro t ht u
    have hu : (s.atPitch ch level e).lineDropped = u :=
      congrArg (fun x : State => x.withOccurrence .lineOverrun none none) (hout (s.lasWithDropped .run))
    have htakes : State.takes { (s.atPitch ch level e).lineOut with las := s.lasWithDropped .run } .lineOverrun := by
      rw [hout]
      exact ht
    rw [← hu]
    exact ⟨exec_edge_drops h hf hlag hw hs (hroom hs) hl hn hr hfull htakes,
      exec_edge_drops_last h hf hlag hw hs (hroom hs) hl hn hr hfull htakes⟩

/-- Settles O25: the expiry does what it does by the inspection state, and the event settles. -/
theorem standstillExpiry : Obligations.StandstillExpiry := by
  intro s t h ht
  have hd : (s.stoodStill t).nothingDue := State.nothingDue_congr h.2.1 rfl rfl rfl rfl
  exact ⟨fun hs => inService_of_unposted _ h (standstillExpiry_unreported ht hs) rfl rfl hd,
    fun hs hr => inService_of_posted _ h (standstillExpiry_reported ht hs hr) rfl hd⟩

/-- Settles O28: refused as every request of STOPPED alone is, and with every field in range taken whole. -/
theorem setEncoder : Obligations.SetEncoder := by
  intro s tag h
  refine ⟨refusedAsStated_of_badValue h (by decide) _ tag fun f i hf hi => ?_, ?_⟩
  · exact handle_setEncoder_badValue tag hf (by simpa [setEncoderChecks, inRange, isCode2] using hi)
  · intro counts window timeout lines direction hs hc1 hc2 hw ht1 ht2 hl
    let new : EncSettings :=
      { countsPerLine := counts, glitchWindow := window, standstillTimeout := timeout, spliceLines := lines
        direction := direction }
    obtain ⟨hfits, hok⟩ := EncSettings.fields_ok (c := new) ⟨hc1, hc2⟩ hw ⟨ht1, ht2⟩ hl
    have htaken := handle_setEncoder_taken (s := s) tag hfits hok
    rw [encSettingsOf_fields] at htaken
    exact exec_rowOf_handled h (by rw [hs]; rfl) (by decide) tag hfits htaken (h.rests_withEnc _ rfl _ _)

/-- Settles O29: LAS takes a calibration line or drops it, and the timer starts its next period or the close-out wait, which a
calibration slot in use keeps from ending the calibration at once. -/
theorem calibrationTimer : Obligations.CalibrationTimer := by
  intro s t i r h hs ha hrec ht hr base period last
  refine ⟨fun hi => ?_, fun hfull htakes => ?_⟩
  · intro u
    have hu : takeLine .calibration 0 false (s.reach t).pulse = u :=
      takeLine_claims (s := (s.reach t).pulse) .calibration 0 false hi hr
    refine ⟨fun hn => ?_, fun hn => ?_⟩
    · exact inService_of_unposted _ h (calibrationExpiry_period ht hu ha hn) rfl rfl (nothingDue_nextPeriod t hs hn)
    · have hm := List.mem_set (l := s.las.slots) (i := i) (by rw [hr.2.1]; exact hi.1)
      exact inService_of_unposted _ h (calibrationExpiry_last ht hu ha hrec hn) rfl rfl
        (nothingDue_startCloseOut t r hs (hm _) rfl (show SlotState.assembling ≠ .free by decide))
  · intro u
    have hu : takeLine .calibration 0 false (s.reach t).pulse = u :=
      takeLine_drops (s := (s.reach t).pulse) .calibration 0 false hfull hr htakes
    have henc : u.enc = s.enc := State.withOccurrence_enc ..
    have hffc : u.ffc = s.ffc := State.withOccurrence_ffc ..
    have hlnk : u.lnk = s.lnk := State.withOccurrence_lnk ..
    have hlas : u.las = s.lasWithDropped .calibration := State.withOccurrence_las ..
    have hstate : u.ict.state = .calibrating := (State.withOccurrence_state ..).trans hs
    have hau : u.ffc.active = true := by rw [hffc, ha]
    refine ⟨fun hn => ?_, fun hn hused => ?_⟩
    · have hp : u.nextPeriod t = period u := by rw [State.nextPeriod, henc]
      rw [← henc] at hn
      rw [← hp]
      exact inService_of_posted _ h (calibrationExpiry_period ht hu hau hn) hlnk (nothingDue_nextPeriod t hstate hn)
    · have hp : u.startCloseOut t r = last u := by rw [State.startCloseOut, henc, hffc]
      obtain ⟨sl, hm, hk, hf⟩ := hused
      rw [← henc] at hn
      rw [← hp]
      exact inService_of_posted _ h (calibrationExpiry_last ht hu hau (by rw [hffc, hrec]) hn) hlnk
        (nothingDue_startCloseOut t r hstate (by rw [hlas]; exact hm) hk hf)

/-- Settles O15: each item is read off the reset state, a collection's by the lemma on its places. -/
theorem resetValues : Obligations.ResetValues := by
  unfold Obligations.ResetValues
  simp only [reset_head, reset_slot, reset_lane, reset_track]
  exact ⟨rfl, by decide, by decide, by decide, by decide, by decide, by decide, fun _ => ⟨rfl, rfl, rfl⟩, fun _ _ => trivial,
    by decide, by decide, by decide, by decide, by decide, ⟨fun _ => rfl, rfl⟩,
    ⟨rfl, fun _ _ => rfl, by decide⟩, ⟨fun _ _ => rfl, by decide⟩, ⟨reset_pool, by decide⟩, by decide, by decide,
    by decide, by decide⟩

/-- Settles O26: the pin moves with every edge, and the mark is set in the one case that R12 names. -/
theorem spliceInput : Obligations.SpliceInput := by
  intro s rising h
  have hb : State.atRest { s with pins := { s.pins with spliceIn := rising } } := h
  refine inService_of_unposted (spliceEdge rising) hb ?_ rfl rfl (State.nothingDue_congr h.2.1 rfl rfl rfl rfl)
  by_cases hr : rising = true ∧ s.ict.state = .running
  · exact (if_pos hr).trans (by simp [hr])
  · refine (if_neg hr).trans ?_
    have : (rising && s.ict.state == .running) = false := by simpa using hr
    simp [this]

/-- Settles O27: the state check refuses SPLICE in FAULTED alone, and ENC takes it in RUNNING alone. -/
theorem spliceRequest : Obligations.SpliceRequest := by
  intro s tag h
  have taken {t : State} (hs : refusedByState .splice s.ict.state = none) (ht : handleSplice tag s = t) (hr : t.rests) :
      exec (.splice tag []) s = .next t.sends :=
    exec_row_handled h .splice tag (Nat.zero_le _) hs rfl ht hr
  refine ⟨fun hs => ?_, fun hs => ?_, fun hs => ?_⟩
  · refine taken (by rw [hs]; rfl) ?_ (h.rests_withEnc _ rfl _ _)
    simp [handleSplice, hs, State.done_eq_withReply]
  · refine taken (by rcases hs with hs | hs | hs <;> rw [hs] <;> rfl) ?_ (h.rests_withReply _ _)
    have : (s.ict.state == .running) = false := by rcases hs with hs | hs | hs <;> rw [hs] <;> rfl
    simp [handleSplice, this, State.done_eq_withReply]
  · exact exec_row_refusedByState h .splice tag (Nat.zero_le _) (by rw [hs]; rfl)

end Sys2Proof.WebPosition
end

section
/-! PROOFS. Slots and heads: what a read gives after a write, when a slot's change leaves the procedures waiting, and the strike of a
head from its slot. -/

namespace Sys2Proof.Machine

/-! ## Reading slots and heads -/

/-- Of two writes of one slot the second stands. -/
@[simp] theorem State.setSlot_setSlot (s : State) (i : Nat) (a b : Slot) : (s.setSlot i a).setSlot i b = s.setSlot i b := by
  simp [State.setSlot]

/-- A slot written as it stands changes nothing. -/
@[simp] theorem State.setSlot_self (s : State) (i : Nat) : s.setSlot i (s.las.slot i) = s := by
  by_cases h : i < s.las.slots.length
  · simp [State.setSlot, Las.slot, List.getD, h]
  · simp [State.setSlot, List.set_eq_of_length_le (Nat.le_of_not_lt h)]

/-- Of two writes of one head the second stands. -/
@[simp] theorem State.setHead_setHead (s : State) (h : Nat) (a b : Head) : (s.setHead h a).setHead h b = s.setHead h b := by
  simp [State.setHead]

/-- A write to a slot beyond the last leaves the part as it is. -/
theorem State.setSlot_of_le (s : State) {i : Nat} (sl : Slot) (h : s.las.slots.length ≤ i) : s.setSlot i sl = s := by
  simp [State.setSlot, List.set_eq_of_length_le h]

/-- A place of the heads beyond the last reads as a head after a reset, which is disabled. -/
theorem Las.lt_of_enabled {l : Las} {h : Nat} (he : (l.head h).settings.enabled = true) : h < l.heads.length := by
  by_contra hn
  simp [Las.head, List.getD, List.getElem?_eq_none (Nat.le_of_not_lt hn), Head.reset, HeadSettings.default] at he

/-- The base column and the set of low heads depend on the heads alone. -/
theorem Las.lowHeads_setHead (s : State) (h : Nat) (hd : Head) (he : hd.lowLive = (s.las.head h).lowLive) :
    (s.setHead h hd).las.lowHeads = s.las.lowHeads := by
  refine List.filter_congr fun k _ => ?_
  by_cases hk : k = h
  · subst hk
    by_cases hl : k < s.las.heads.length
    · rw [Las.head_setHead_same s k hd hl, he]
    · simp [State.setHead, List.set_eq_of_length_le (Nat.le_of_not_lt hl)]
  · rw [Las.head_setHead_other s h k hd hk]

/-! ## When no calibration is due (R49) -/

/-- What holds of a FREE slot and of every slot of a list holds of every index. -/
theorem Las.all_slots_iff (l : Las) (p : Slot → Bool) (hb : p Slot.blank = true) :
    l.slots.all p = true ↔ ∀ k, p (l.slot k) = true := by
  refine List.all_eq_true.trans ⟨fun h k => ?_, fun h sl hm => ?_⟩
  · by_cases hk : k < l.slots.length
    · simpa [Las.slot, List.getD, hk] using h _ (List.getElem_mem hk)
    · simpa [Las.slot, List.getD, List.getElem?_eq_none (Nat.le_of_not_lt hk)] using hb
  · obtain ⟨k, hk, rfl⟩ := List.getElem_of_mem hm
    simpa [Las.slot, List.getD, hk] using h k

/-- R49's conditions, slot by slot. -/
theorem calibrationDue_iff (r : CalRecord) (s : State) :
    calibrationDue r s = true ↔
      (s.ffc.active = true ∧ s.ict.state = .calibrating ∧ s.enc.calRemaining = 0 ∧ s.las.processing = none) ∧
      (∀ k, (s.las.slot k).state = .complete → (s.las.slot k).kind ≠ .calibration) ∧
      ((∀ k, (s.las.slot k).state = .assembling → (s.las.slot k).kind ≠ .calibration) ∨ r.closeOut = .expired) := by
  simp only [calibrationDue, Bool.and_eq_true, Bool.or_eq_true, beq_iff_eq, Option.isNone_iff_eq_none]
  rw [Las.all_slots_iff s.las _ (by decide), Las.all_slots_iff s.las _ (by decide)]
  simp [assemblingCalibration, and_assoc, imp_iff_not_or]

/-- A slot that stays as it is in state and kind, or becomes COMPLETE, makes nothing due: a COMPLETE calibration slot bars the
completion as an ASSEMBLING one does. -/
theorem State.nothingDue_setSlot {s : State} (h : s.nothingDue) {i : Nat} {sl : Slot} (hk : sl.kind = (s.las.slot i).kind)
    (hst : sl.state = (s.las.slot i).state ∨ (s.las.slot i).state = .assembling ∧ sl.state = .complete) :
    (s.setSlot i sl).nothingDue := by
  refine ⟨h.1, fun r hr => ?_⟩
  have hs := h.2 r hr
  rw [Bool.eq_false_iff, Ne, calibrationDue_iff] at hs ⊢
  refine fun ⟨hc, hcomplete, hwait⟩ => hs ⟨hc, ?_⟩
  by_cases hi : i < s.las.slots.length
  · have hat : (s.setSlot i sl).las.slot i = sl := Las.slot_setSlot_same s i sl hi
    have hoff (k : Nat) (hki : k ≠ i) : (s.setSlot i sl).las.slot k = s.las.slot k := Las.slot_setSlot_other s i k sl hki
    have hci := hcomplete i
    rw [hat] at hci
    refine ⟨fun k => ?_, hwait.imp_left fun hw k => ?_⟩
    · by_cases hki : k = i
      · subst hki
        rw [← hk]
        rcases hst with hst | ⟨hst, -⟩ <;> simp_all
      · rw [← hoff k hki]
        exact hcomplete k
    · have hwi := hw i
      rw [hat] at hwi
      by_cases hki : k = i
      · subst hki
        rw [← hk]
        rcases hst with hst | ⟨hst, hst'⟩ <;> simp_all
      · rw [← hoff k hki]
        exact hw k
  · rw [State.setSlot_of_le s sl (Nat.le_of_not_lt hi)] at hcomplete hwait
    exact ⟨hcomplete, hwait⟩

/-- An occurrence that is taken makes nothing due. -/
theorem State.nothingDue_withOccurrence {s : State} (h : s.nothingDue) (src : Source) (d l : Option Nat) :
    (s.withOccurrence src d l).nothingDue :=
  State.nothingDue_congr h (State.withOccurrence_state ..) (State.withOccurrence_las ..) (State.withOccurrence_ffc ..)
    (congrArg Enc.calRemaining (State.withOccurrence_enc ..))

/-! ## What an occurrence leaves alone -/

@[simp] theorem State.withOccurrence_actions (s : State) (src : Source) (d l : Option Nat) :
    (s.withOccurrence src d l).ict.actions = s.ict.actions := by
  simp only [State.withOccurrence]
  split <;> rfl

@[simp] theorem State.withOccurrence_trk (s : State) (src : Source) (d l : Option Nat) :
    (s.withOccurrence src d l).trk = s.trk := by
  obtain ⟨_, _, h, -⟩ := s.withOccurrence_eq src d l
  rw [h]

theorem State.withOccurrence_setHead (s : State) (src : Source) (d l : Option Nat) (h : Nat) (hd : Head) :
    (s.withOccurrence src d l).setHead h hd = (s.setHead h hd).withOccurrence src d l := by
  simp only [State.setHead, State.withOccurrence_las]
  exact (State.withOccurrence_setLas ..).symm

theorem State.withOccurrence_setSlot (s : State) (src : Source) (d l : Option Nat) (i : Nat) (sl : Slot) :
    (s.withOccurrence src d l).setSlot i sl = (s.setSlot i sl).withOccurrence src d l := by
  simp only [State.setSlot, State.withOccurrence_las]
  exact (State.withOccurrence_setLas ..).symm

/-! ## The strike of a head from its slot (R28, R29) -/

/-- The DEGRADED mark at completion reads the notes, the actions, the low heads and the free list alone. -/
theorem degradedAtCompletion_congr (notes : Notes) {s t : State} (ha : t.ict.actions = s.ict.actions)
    (hl : t.las.lowHeads = s.las.lowHeads) (hf : t.trk.freeList = s.trk.freeList) :
    degradedAtCompletion notes t = degradedAtCompletion notes s := by
  simp only [degradedAtCompletion, Ict.action, Trk.full, ha, hl, hf]

/-- No head owes the slot once `h` is struck from it. -/
def Slot.settledBy (sl : Slot) (h : Nat) : Bool := sl.state == .assembling && sl.owed.filter (· ≠ h) == []

/-- A slot with a head struck from it, `degraded` being the mark of a completion. -/
def Slot.struck (sl : Slot) (h : Nat) (degraded : Bool) : Slot :=
  { sl with
    owed := sl.owed.filter (· ≠ h), state := if sl.settledBy h then .complete else sl.state
    degraded := if sl.settledBy h then degraded else sl.degraded }

@[simp] theorem Slot.struck_kind (sl : Slot) (h : Nat) (d : Bool) : (sl.struck h d).kind = sl.kind := rfl

theorem Slot.struck_state (sl : Slot) (h : Nat) (d : Bool) :
    (sl.struck h d).state = sl.state ∨ sl.state = .assembling ∧ (sl.struck h d).state = .complete := by
  by_cases hs : sl.settledBy h = true
  · exact .inr ⟨by simp_all [Slot.settledBy], if_pos hs⟩
  · exact .inl (if_neg hs)

/-- The strike of a head from a slot just written. -/
theorem strike_setSlot (j h : Nat) (s : State) (sl : Slot) :
    strike j h (s.setSlot j sl) = s.setSlot j (sl.struck h (degradedAtCompletion sl.notes s)) := by
  by_cases hj : j < s.las.slots.length
  · have hat (u : State) (x : Slot) (hu : u.las = s.las) : (u.setSlot j x).las.slot j = x :=
      Las.slot_setSlot_same u j x (by rw [hu]; exact hj)
    simp only [strike, completeIfSettled, hat s _ rfl, State.setSlot_setSlot, Slot.struck, Slot.settledBy, Bool.and_eq_true,
      beq_iff_eq]
    split <;> rfl
  · have hb : s.las.slot j = Slot.blank := by
      simp [Las.slot, List.getD, List.getElem?_eq_none (Nat.le_of_not_lt hj)]
    simp only [strike, completeIfSettled, State.setSlot_of_le s _ (Nat.le_of_not_lt hj), hb]
    rfl

theorem strike_eq (j h : Nat) (s : State) :
    strike j h s = s.setSlot j ((s.las.slot j).struck h (degradedAtCompletion (s.las.slot j).notes s)) := by
  have := strike_setSlot j h s (s.las.slot j)
  rwa [State.setSlot_self] at this

/-- The strike neither reads nor changes what an occurrence changes. -/
theorem strike_withOccurrence (j h : Nat) (s : State) (src : Source) (d l : Option Nat) :
    strike j h (s.withOccurrence src d l) = (strike j h s).withOccurrence src d l := by
  rw [strike_eq, strike_eq, State.withOccurrence_las, State.withOccurrence_setSlot,
    degradedAtCompletion_congr (t := s.withOccurrence src d l) (s := s) _ (State.withOccurrence_actions ..)
      (by rw [State.withOccurrence_las]) (by rw [State.withOccurrence_trk])]

/-- The strike neither reads nor changes the report queue. -/
theorem strike_withReport (j h : Nat) (s : State) (r : Report) :
    strike j h (s.withReport r) = (strike j h s).withReport r := by
  rw [strike_eq, strike_eq]
  rfl

/-- The strike makes nothing due. -/
theorem State.nothingDue_struck {s : State} (h : s.nothingDue) (j n : Nat) (d : Bool) {sl : Slot}
    (hk : sl.kind = (s.las.slot j).kind) (hs : sl.state = (s.las.slot j).state) :
    (s.setSlot j (sl.struck n d)).nothingDue := by
  refine State.nothingDue_setSlot h hk ?_
  rw [← hs]
  exact sl.struck_state n d

end Sys2Proof.Machine
end

section
/-! PROOFS. The events of a head's delivery: line-start, raw level and line-end, and the lamp monitor. -/

namespace Sys2Proof.Machine

/-! ## Line-start (R26) -/

/-- A head's delivery state becomes another, and nothing else changes. -/
def State.turn (s : State) (h : Nat) (d : Delivery) : State := s.setHead h { s.las.head h with delivery := d }

section
variable {s : State} {h : Nat} (he : (s.las.head h).settings.enabled = true)

theorem lineEnd_ignored
    (hd : (s.las.head h).settings.enabled = false ∨ (s.las.head h).delivery = .idle ∨
      ∃ t, (s.las.head h).delivery = .waiting t) : lineEnd h s = s := by
  rcases hd with hd | hd | ⟨t, hd⟩ <;> simp [lineEnd, hd]

theorem lineStart_disabled (hd : (s.las.head h).settings.enabled = false) : lineStart h s = s := by
  simp [lineStart, hd]

include he

theorem lineStart_unsolicited (hd : (s.las.head h).delivery = .idle ∨ (s.las.head h).delivery = .discarding none) :
    lineStart h s = unsolicited h s := by
  rcases hd with hd | hd <;> simp [lineStart, he, hd]

theorem lineEnd_discarding (hd : (s.las.head h).delivery = .discarding none) : lineEnd h s = s.turn h .idle := by
  simp [lineEnd, he, hd, State.turn]

theorem lineEnd_owing {t : Target} (hd : (s.las.head h).delivery = .discarding (some t)) :
    lineEnd h s = s.turn h (.waiting t) := by
  simp [lineEnd, he, hd, State.turn]

theorem lineStart_owing {t : Target}
    (hd : (s.las.head h).delivery = .waiting t ∨ (s.las.head h).delivery = .discarding (some t)) :
    lineStart h s = startDelivery h t s := by
  rcases hd with hd | hd <;> simp [lineStart, he, hd]

theorem lineStart_receiving {j p r : Nat} (hd : (s.las.head h).delivery = .receiving j p r) :
    lineStart h s = unsolicited h (endDelivery h j p r s) := by
  simp [lineStart, he, hd]

theorem lineEnd_receiving {j p r : Nat} (hd : (s.las.head h).delivery = .receiving j p r) :
    lineEnd h s = endDelivery h j p r s := by
  simp [lineEnd, he, hd]

end

/-! ## Raw levels (R27) -/

/-- A slot's levels once pixel `p` of a delivery with settings `c` has arrived, the head's base column being `base`. -/
def rawAfter (c : HeadSettings) (base p level : Nat) (raw : Sparse Nat) : Sparse Nat :=
  if c.first ≤ p ∧ p < c.first + c.count then Sparse.set 0 raw (base + p - c.first) level else raw

theorem get_rawAfter (c : HeadSettings) (base p level : Nat) {raw : Sparse Nat} (hw : Sparse.wf 0 raw = true) (column : Nat) :
    Sparse.get 0 (rawAfter c base p level raw) column =
      if c.first ≤ p ∧ p < c.first + c.count ∧ column = base + (p - c.first) then level else Sparse.get 0 raw column := by
  unfold rawAfter
  by_cases hp : c.first ≤ p ∧ p < c.first + c.count
  · have hcol : base + p - c.first = base + (p - c.first) := by omega
    rw [if_pos hp, hcol]
    by_cases hc : column = base + (p - c.first)
    · rw [if_pos ⟨hp.1, hp.2, hc⟩, hc, Sparse.get_set_same 0 raw _ level 0 hw]
    · rw [if_neg (fun h => hc h.2.2), Sparse.get_set_other 0 raw _ column level 0 hw hc]
  · rw [if_neg hp, if_neg (fun h => hp ⟨h.1, h.2.1⟩)]

theorem rawLevel_taken {s : State} {h j p r : Nat} (level : Nat) (he : (s.las.head h).settings.enabled = true)
    (hd : (s.las.head h).delivery = .receiving j p r) (hp : p < Config.deliveryLimit) :
    let c := (s.las.head h).settings
    rawLevel h level s =
      (s.setSlot j { s.las.slot j with raw := rawAfter c (s.las.base h) p level (s.las.slot j).raw }).turn h
        (.receiving j (p + 1) (if c.refFirst ≤ p ∧ p < c.refFirst + c.refCount then r + level else r)) := by
  intro c
  have hslot :
      (if c.first ≤ p ∧ p < c.first + c.count then
        s.setSlot j { s.las.slot j with raw := Sparse.set 0 (s.las.slot j).raw (s.las.base h + p - c.first) level }
      else s) = s.setSlot j { s.las.slot j with raw := rawAfter c (s.las.base h) p level (s.las.slot j).raw } := by
    unfold rawAfter
    split
    · rfl
    · exact (s.setSlot_self j).symm
  simp only [rawLevel, he, if_true, hd, hp, c] at hslot ⊢
  rw [hslot]
  rfl

theorem rawLevel_thrownAway {s : State} {h : Nat} (level : Nat)
    (hd : (s.las.head h).settings.enabled = false ∨
      ∀ j p r, (s.las.head h).delivery = .receiving j p r → Config.deliveryLimit ≤ p) : rawLevel h level s = s := by
  rcases hd with hd | hd
  · simp [rawLevel, hd]
  · simp only [rawLevel]
    split
    · split
      · next j p r hr => rw [if_neg (Nat.not_lt.mpr (hd j p r hr))]
      all_goals rfl
    · rfl

/-! ## The end of a delivery (R28) -/

/-- The slot of a short delivery: its unfilled columns are no-data, and HEAD_SHORT is noted. -/
def Slot.short (sl : Slot) (h : Nat) (gap : Option (Nat × Nat)) : Slot :=
  { sl with noData := sl.noData.set h gap, notes := { sl.notes with headShort := true } }

/-- The part with the slot of a delivery short when the used window was not filled. -/
def shortNoted (h j pixels : Nat) (s : State) : State :=
  if pixels < (s.las.head h).settings.first + (s.las.head h).settings.count then
    occur .headShort (some h) none
      (s.setSlot j ((s.las.slot j).short h (s.las.unfilled h ((s.las.head h).settings.filled pixels))))
  else s

/-- The lamp monitor's part in the end of a delivery: a RUN line that holds the whole reference window is evaluated (R33). -/
def lampEvaluated (h : Nat) (c : HeadSettings) (kind : LineKind) (pixels refSum : Nat) (s : State) : State :=
  if 0 < c.refCount ∧ c.refFirst + c.refCount ≤ pixels ∧ kind = .run then
    evaluateLamp h (referenceMean refSum c.refCount) s
  else s

/-- A delivery's end: the slot is short or not, the lamp is evaluated or not, the head is IDLE and struck. -/
theorem endDelivery_eq (h j pixels refSum : Nat) (s : State) :
    endDelivery h j pixels refSum s =
      strike j h ((lampEvaluated h (s.las.head h).settings (s.las.slot j).kind pixels refSum
        (shortNoted h j pixels s)).turn h .idle) := rfl

/-- Head settings are those of the part's own registers: no post changes one. -/
theorem headSettings_stable (c : List HeadSettings) : Stable fun s => s.las.headSettings = c where
  take _ _ _ h := h
  count _ _ h := h
  stop _ _ _ h := h
  words _ _ _ h := h
  free _ _ _ h := h
  release s h := by
    simp only [State.releaseLine]
    split <;> exact h
  abort s h := by
    rw [← h]
    simp [State.leaveCalibration, Las.discardSlots, Las.headSettings]
  drop _ h := h
  lanes _ h := h
  fatal _ h := h
  finish s d h := by
    simp only [State.finishRequest]
    split
    · split <;> exact h
    · exact h
    · exact h

theorem headSettings_setHead (s : State) (h : Nat) (hd : Head) (hs : hd.settings = (s.las.head h).settings) :
    (s.setHead h hd).las.headSettings = s.las.headSettings := by
  refine List.ext_getElem (by simp [Las.headSettings, State.setHead]) fun i hi hi' => ?_
  have hl : i < s.las.heads.length := by simpa [Las.headSettings] using hi'
  simp only [Las.headSettings, State.setHead, List.getElem_map, List.getElem_set]
  split
  · next e => subst e; simp [hs, Las.head, List.getD, hl]
  · rfl

/-- The settings of a head, from the list of all heads' settings. -/
theorem head_settings_of_eq {s t : State} (h : t.las.headSettings = s.las.headSettings) (n : Nat) :
    (t.las.head n).settings = (s.las.head n).settings := by
  have hget (l : Las) : (l.head n).settings = l.headSettings.getD n HeadSettings.default := by
    simp only [Las.head, Las.headSettings, List.getD, List.getElem?_map]
    cases l.heads[n]? <;> rfl
  rw [hget, hget, h]

theorem shortNoted_headSettings (h j p : Nat) (s : State) : (shortNoted h j p s).las.headSettings = s.las.headSettings := by
  unfold shortNoted
  split
  · exact (headSettings_stable _).occur _ _ _ _ rfl
  · rfl

theorem evaluateLamp_headSettings (h mean : Nat) (s : State) :
    (evaluateLamp h mean s).las.headSettings = s.las.headSettings := by
  simp only [evaluateLamp]
  split
  · refine (headSettings_stable _).occur _ _ _ _ (headSettings_setHead s h _ rfl)
  · split
    · exact (headSettings_stable _).returnToNormal _ _ (headSettings_setHead s h _ rfl)
    · exact headSettings_setHead s h _ rfl

/-- The end of a delivery leaves the settings alone, and its head IDLE. -/
theorem endDelivery_head (h j p r : Nat) {s : State} (hl : h < s.las.heads.length) :
    ((endDelivery h j p r s).las.head h).settings = (s.las.head h).settings ∧
      ((endDelivery h j p r s).las.head h).delivery = .idle := by
  rw [endDelivery_eq, strike_eq]
  generalize hu : lampEvaluated h (s.las.head h).settings (s.las.slot j).kind p r (shortNoted h j p s) = u
  have hus : u.las.headSettings = s.las.headSettings := by
    rw [← hu, ← shortNoted_headSettings h j p s]
    unfold lampEvaluated
    split
    · exact evaluateLamp_headSettings ..
    · rfl
  have hlu : h < u.las.heads.length := by
    have := congrArg List.length hus
    simp only [Las.headSettings, List.length_map] at this
    omega
  change ((u.turn h .idle).las.head h).settings = _ ∧ ((u.turn h .idle).las.head h).delivery = _
  rw [State.turn, Las.head_setHead_same u h _ hlu]
  exact ⟨head_settings_of_eq hus h, rfl⟩

theorem unfilled_short {l : Las} {h p : Nat} (hc : 0 < (l.head h).settings.count)
    (hp : p < (l.head h).settings.first + (l.head h).settings.count) :
    l.unfilled h ((l.head h).settings.filled p) =
      some (l.base h + (p - (l.head h).settings.first), l.base h + (l.head h).settings.count - 1) := by
  have hf : (l.head h).settings.filled p = p - (l.head h).settings.first := Nat.min_eq_left (by omega)
  rw [hf]
  exact if_pos (by omega)

/-- A delivery that filled the used window is not short. -/
theorem shortNoted_filled {s : State} {h p : Nat} (j : Nat)
    (hp : (s.las.head h).settings.first + (s.las.head h).settings.count ≤ p) : shortNoted h j p s = s :=
  if_neg (Nat.not_lt.mpr hp)

/-- A short delivery, with its HEAD_SHORT taken. -/
theorem shortNoted_short {s : State} {h p : Nat} (j : Nat) (hc : 0 < (s.las.head h).settings.count)
    (hp : p < (s.las.head h).settings.first + (s.las.head h).settings.count) (ht : s.takes .headShort) :
    shortNoted h j p s =
      (s.withOccurrence .headShort (some h) none).setSlot j
        ((s.las.slot j).short h
          (some (s.las.base h + (p - (s.las.head h).settings.first),
            s.las.base h + (s.las.head h).settings.count - 1))) := by
  rw [State.withOccurrence_setSlot, ← unfilled_short hc hp]
  exact (if_pos hp).trans (occur_of_takes (s.setSlot j _) _ _ _ ht)

theorem State.turn_withOccurrence (s : State) (src : Source) (d l : Option Nat) (h : Nat) (del : Delivery) :
    (s.withOccurrence src d l).turn h del = (s.turn h del).withOccurrence src d l := by
  simp only [State.turn, State.withOccurrence_setHead, State.withOccurrence_las]

/-! ## The lamp monitor (R33, R34) -/

/-- The lamp monitor does not evaluate the delivery: it has no reference window, does not hold it whole, or is of a CALIBRATION
line. -/
theorem lampEvaluated_skipped (h : Nat) {c : HeadSettings} {kind : LineKind} {p : Nat} (refSum : Nat) (s : State)
    (hs : c.refCount = 0 ∨ p < c.refFirst + c.refCount ∨ kind = .calibration) : lampEvaluated h c kind p refSum s = s := by
  refine if_neg fun ⟨h0, hw, hk⟩ => ?_
  rcases hs with hs | hs | hs
  · omega
  · omega
  · rw [hk] at hs
    exact absurd hs (by decide)

/-- A head's last mean and low mark become others, and nothing else changes. -/
def State.lamp (s : State) (h mean : Nat) (low : Bool) : State :=
  s.setHead h { s.las.head h with lastMean := some mean, lowLive := low }

section
variable {s : State} {h mean : Nat}

theorem evaluateLamp_low (hl : (s.las.head h).lowLive = false) (hm : mean < s.las.lampSet) (ht : s.takes .referenceLow) :
    evaluateLamp h mean s = (s.lamp h mean true).withOccurrence .referenceLow (some h) none := by
  simp only [evaluateLamp, hl, hm]
  exact occur_of_takes (s.lamp h mean true) _ _ _ ht

theorem returnToNormal_ignored (ha : s.ict.action .referenceLow = .ignore) : returnToNormal h s = s := by
  simp [returnToNormal, ha, Action.reports]

theorem returnToNormal_room (ha : s.ict.action .referenceLow ≠ .ignore) (hr : s.room .fault) :
    returnToNormal h s = s.withReport (.fault .referenceLow true (some h) none (s.ict.action .referenceLow) none) := by
  simp only [returnToNormal, (Action.reports_iff _).mpr ha, if_true]
  exact post_room s (.fault .referenceLow true (some h) none (s.ict.action .referenceLow) none) none hr

theorem evaluateLamp_clear (hl : (s.las.head h).lowLive = true) (hm : s.las.lampClear ≤ mean) :
    evaluateLamp h mean s = returnToNormal h (s.lamp h mean false) := by
  simp only [evaluateLamp, hl, hm]
  rfl

theorem evaluateLamp_stays
    (hs : (s.las.head h).lowLive = false ∧ s.las.lampSet ≤ mean ∨ (s.las.head h).lowLive = true ∧ mean < s.las.lampClear) :
    evaluateLamp h mean s = s.lamp h mean (s.las.head h).lowLive := by
  rcases hs with ⟨hl, hm⟩ | ⟨hl, hm⟩
  · simp [evaluateLamp, State.lamp, hl, Nat.not_lt.mpr hm]
  · simp [evaluateLamp, State.lamp, hl, Nat.not_le.mpr hm]

/-- The head whose lamp has been evaluated becomes IDLE. -/
theorem State.lamp_turn (hn : h < s.las.heads.length) (low : Bool) (d : Delivery) :
    (s.lamp h mean low).turn h d =
      s.setHead h { s.las.head h with delivery := d, lastMean := some mean, lowLive := low } := by
  rw [State.turn, State.lamp, Las.head_setHead_same s h _ hn, State.setHead_setHead]

end

/-- The part after a delivery to slot `j` whose lamp has been evaluated: the head is IDLE with its new mean and mark, and struck. -/
def State.lampEnded (u : State) (h j mean : Nat) (low : Bool) (sl : Slot) : State :=
  let v := u.setHead h { u.las.head h with delivery := .idle, lastMean := some mean, lowLive := low }
  v.setSlot j (sl.struck h (degradedAtCompletion sl.notes v))

theorem strike_lamp (u : State) {h : Nat} (hn : h < u.las.heads.length) (j mean : Nat) (low : Bool) (sl : Slot) :
    strike j h (((u.setSlot j sl).lamp h mean low).turn h .idle) = u.lampEnded h j mean low sl :=
  (congrArg (strike j h) (State.lamp_turn (s := u.setSlot j sl) hn low .idle)).trans (strike_setSlot j h (u.setHead h _) sl)

section
variable {u : State} {h mean : Nat} (hn : h < u.las.heads.length) (j : Nat) (sl : Slot)
include hn

/-- A lamp that becomes low at the end of a delivery, with its REFERENCE_LOW taken. -/
theorem strike_lamp_low (hl : (u.las.head h).lowLive = false) (hm : mean < u.las.lampSet) (ht : u.takes .referenceLow) :
    strike j h ((evaluateLamp h mean (u.setSlot j sl)).turn h .idle) =
      (u.lampEnded h j mean true sl).withOccurrence .referenceLow (some h) none := by
  rw [evaluateLamp_low (s := u.setSlot j sl) hl hm ht, State.turn_withOccurrence, strike_withOccurrence, strike_lamp u hn]

/-- A lamp that is no longer low at the end of a delivery, and is not reported. -/
theorem strike_lamp_ignored (hl : (u.las.head h).lowLive = true) (hm : u.las.lampClear ≤ mean)
    (ha : u.ict.action .referenceLow = .ignore) :
    strike j h ((evaluateLamp h mean (u.setSlot j sl)).turn h .idle) = u.lampEnded h j mean false sl := by
  rw [evaluateLamp_clear (s := u.setSlot j sl) hl hm,
    returnToNormal_ignored (s := (u.setSlot j sl).lamp h mean false) ha, strike_lamp u hn]

/-- A lamp that is no longer low at the end of a delivery, with its return to normal. -/
theorem strike_lamp_cleared (hl : (u.las.head h).lowLive = true) (hm : u.las.lampClear ≤ mean)
    (ha : u.ict.action .referenceLow ≠ .ignore) (hr : u.room .fault) :
    strike j h ((evaluateLamp h mean (u.setSlot j sl)).turn h .idle) =
      (u.lampEnded h j mean false sl).withReport
        (.fault .referenceLow true (some h) none (u.ict.action .referenceLow) none) := by
  rw [evaluateLamp_clear (s := u.setSlot j sl) hl hm,
    returnToNormal_room (s := (u.setSlot j sl).lamp h mean false) ha hr, ← strike_lamp u hn, ← strike_withReport]
  rfl

/-- A lamp whose mark stays. -/
theorem strike_lamp_stays
    (hs : (u.las.head h).lowLive = false ∧ u.las.lampSet ≤ mean ∨ (u.las.head h).lowLive = true ∧ mean < u.las.lampClear) :
    strike j h ((evaluateLamp h mean (u.setSlot j sl)).turn h .idle) =
      u.lampEnded h j mean (u.las.head h).lowLive sl := by
  rw [evaluateLamp_stays (s := u.setSlot j sl) hs]
  exact strike_lamp u hn j mean _ sl

end

/-- The end of a delivery to a RUN line that holds the whole reference window. -/
theorem endDelivery_evaluated {s : State} {h j p r : Nat} {v : State} (hv : shortNoted h j p s = v)
    (h0 : 0 < (s.las.head h).settings.refCount)
    (hw : (s.las.head h).settings.refFirst + (s.las.head h).settings.refCount ≤ p) (hk : (s.las.slot j).kind = .run) :
    endDelivery h j p r s =
      strike j h ((evaluateLamp h (referenceMean r (s.las.head h).settings.refCount) v).turn h .idle) := by
  rw [endDelivery_eq, hv, lampEvaluated, if_pos ⟨h0, hw, hk⟩]

/-- The end of a delivery that the lamp monitor does not evaluate. -/
theorem endDelivery_unevaluated {s : State} {h j p : Nat} (r : Nat)
    (hs : (s.las.head h).settings.refCount = 0 ∨
      p < (s.las.head h).settings.refFirst + (s.las.head h).settings.refCount ∨ (s.las.slot j).kind = .calibration) :
    endDelivery h j p r s = strike j h ((shortNoted h j p s).turn h .idle) := by
  rw [endDelivery_eq, lampEvaluated_skipped h r _ hs]

/-- The part with a head IDLE and struck from a slot that stands as `sl`, the lamp monitor having no part in it. -/
def State.ended (s : State) (h j : Nat) (sl : Slot) : State :=
  (s.turn h .idle).setSlot j (sl.struck h (degradedAtCompletion sl.notes s))

theorem strike_turn (s : State) (h j : Nat) (sl : Slot) : strike j h ((s.setSlot j sl).turn h .idle) = s.ended h j sl := by
  refine (strike_setSlot j h (s.turn h .idle) sl).trans ?_
  rw [degradedAtCompletion_congr (s := s) (t := s.turn h .idle) _ rfl (Las.lowHeads_setHead s h _ rfl) rfl]
  rfl

/-- The end of a delivery makes nothing due. -/
theorem State.nothingDue_ended {s : State} (hd : s.nothingDue) (h : Nat) {j : Nat} (sl : Slot)
    (hk : sl.kind = (s.las.slot j).kind) (hs : sl.state = (s.las.slot j).state) : (s.ended h j sl).nothingDue :=
  State.nothingDue_struck (s := s.turn h .idle) hd j h _ hk hs

theorem State.nothingDue_lampEnded {u : State} (hd : u.nothingDue) (h mean : Nat) (low : Bool) {j : Nat} (sl : Slot)
    (hk : sl.kind = (u.las.slot j).kind) (hs : sl.state = (u.las.slot j).state) : (u.lampEnded h j mean low sl).nothingDue :=
  State.nothingDue_struck (s := u.setHead h _) hd j h _ hk hs

/-! ## The DEGRADED mark (R29) -/

/-- An action marks lines when it is MARK or above. -/
theorem Action.marks_iff (a : Action) : a.marks = true ↔ a = .mark ∨ a = .stop := by
  cases a <;> simp [Action.marks]

/-- A source that stands at a completion: noted in the slot, or live. -/
def degrades (notes : Notes) (s : State) (src : Source) : Prop :=
  src = .headLate ∧ notes.headLate = true ∨ src = .headShort ∧ notes.headShort = true ∨
    src = .lineOverrun ∧ notes.lineOverrun = true ∨
    src = .referenceLow ∧ (∃ h < 4, (s.las.head h).lowLive = true) ∨ src = .tableFull ∧ s.trk.freeList = []

theorem lowHeads_nonempty (l : Las) : (!l.lowHeads.isEmpty) = true ↔ ∃ h < 4, (l.head h).lowLive = true := by
  simp [Las.lowHeads]

theorem degradedAtCompletion_iff (notes : Notes) (s : State) :
    degradedAtCompletion notes s = true ↔
      ∃ src, degrades notes s src ∧ (s.ict.action src = .mark ∨ s.ict.action src = .stop) := by
  have hfull : s.trk.full = true ↔ s.trk.freeList = [] := List.isEmpty_iff
  simp only [degradedAtCompletion, Bool.or_eq_true, Bool.and_eq_true, Action.marks_iff, lowHeads_nonempty, hfull]
  constructor
  · rintro ((((⟨hn, ha⟩ | ⟨hn, ha⟩) | ⟨hn, ha⟩) | ⟨hn, ha⟩) | ⟨hn, ha⟩)
    · exact ⟨.headLate, .inl ⟨rfl, hn⟩, ha⟩
    · exact ⟨.headShort, .inr (.inl ⟨rfl, hn⟩), ha⟩
    · exact ⟨.lineOverrun, .inr (.inr (.inl ⟨rfl, hn⟩)), ha⟩
    · exact ⟨.referenceLow, .inr (.inr (.inr (.inl ⟨rfl, hn⟩))), ha⟩
    · exact ⟨.tableFull, .inr (.inr (.inr (.inr ⟨rfl, hn⟩))), ha⟩
  · rintro ⟨src, ⟨rfl, hn⟩ | ⟨rfl, hn⟩ | ⟨rfl, hn⟩ | ⟨rfl, hn⟩ | ⟨rfl, hn⟩, ha⟩
    · exact .inl (.inl (.inl (.inl ⟨hn, ha⟩)))
    · exact .inl (.inl (.inl (.inr ⟨hn, ha⟩)))
    · exact .inl (.inl (.inr ⟨hn, ha⟩))
    · exact .inl (.inr ⟨hn, ha⟩)
    · exact .inr ⟨hn, ha⟩

/-! ## A late head (R25) -/

/-- The slot of a late head: its unfilled columns are no-data, and HEAD_LATE is noted. -/
def Slot.late (sl : Slot) (h : Nat) (gap : Option (Nat × Nat)) : Slot :=
  { sl with noData := sl.noData.set h gap, notes := { sl.notes with headLate := true } }

/-- A late head whose HEAD_LATE is taken. -/
theorem late_taken {s : State} (j h filled : Nat) (ht : s.takes .headLate) :
    late j h filled s =
      (s.setSlot j (((s.las.slot j).late h (s.las.unfilled h filled)).struck h
        (degradedAtCompletion ((s.las.slot j).late h (s.las.unfilled h filled)).notes s))).withOccurrence
          .headLate (some h) none := by
  rw [← strike_setSlot, ← strike_withOccurrence]
  exact congrArg (strike j h)
    (occur_of_takes (s.setSlot j ((s.las.slot j).late h (s.las.unfilled h filled))) .headLate (some h) none ht)

/-- A new target, ASSEMBLING, is passed on to a head that was late for another slot. -/
theorem setDelivery_late {s : State} {i j : Nat} (h filled : Nat) (make : Target → Delivery) (hij : i ≠ j)
    (hi : (s.las.slot i).state = .assembling) (ht : s.takes .headLate) :
    setDelivery h make (.slot i) (late j h filled s) =
      ((s.setSlot j (((s.las.slot j).late h (s.las.unfilled h filled)).struck h
        (degradedAtCompletion ((s.las.slot j).late h (s.las.unfilled h filled)).notes s))).turn h
          (make (.slot i))).withOccurrence .headLate (some h) none := by
  rw [late_taken j h filled ht, ← State.turn_withOccurrence]
  have hlive (sl : Slot) : (s.setSlot j sl).las.liveTarget (.slot i) = .slot i := by
    rw [Las.liveTarget, Las.slot_setSlot_other s j i sl hij, if_pos hi]
  simp only [setDelivery, State.turn, State.withOccurrence_las, hlive]

section
variable {s : State} {h j : Nat} (t : Target)

theorem passTarget_waiting (hd : (s.las.head h).delivery = .waiting (.slot j)) :
    passTarget t h s = setDelivery h .waiting t (late j h 0 s) := by
  simp [passTarget, hd]

theorem passTarget_receiving {p r : Nat} (hd : (s.las.head h).delivery = .receiving j p r) :
    passTarget t h s = setDelivery h .owing t (late j h ((s.las.head h).settings.filled p) s) := by
  simp [passTarget, hd]

theorem passTarget_discarding (hd : (s.las.head h).delivery = .discarding (some (.slot j))) :
    passTarget t h s = setDelivery h .owing t (late j h 0 s) := by
  simp [passTarget, hd]

end

end Sys2Proof.Machine
end

section
/-! PROOFS. The statements on a head's line-start and its raw levels. -/

namespace Sys2Proof.SensorHeads

open Sys2Proof.Machine

/-- Settles O31: the line-start goes by the delivery state; in RECEIVING it finds the head that the line-end leaves IDLE. -/
theorem headLineStart : Obligations.HeadLineStart := by
  intro s h hrest hd turned
  refine ⟨fun he => ?_, fun he hdel ht => ?_, fun j he hdel => ?_, fun he hdel => ?_, fun j p r he hdel => ?_⟩
  · exact inService_of_unposted _ hrest (lineStart_disabled he) rfl rfl hrest.2.1
  · refine inService_of_posted _ hrest ((lineStart_unsolicited he hdel).trans (occur_of_takes (turned _) _ _ _ ht))
      (State.withOccurrence_lnk ..) (State.nothingDue_withOccurrence (s := turned _) hrest.2.1 ..)
  · exact inService_of_unposted _ hrest (lineStart_owing he hdel) rfl rfl hrest.2.1
  · exact inService_of_unposted _ hrest (lineStart_owing he hdel) rfl rfl hrest.2.1
  · obtain ⟨hset, hidle⟩ := endDelivery_head h j p r (s := s) (Las.lt_of_enabled he)
    rw [lineStart_receiving he hdel, lineEnd_receiving he hdel, lineStart_unsolicited (by rw [hset]; exact he) (.inl hidle)]

/-- Settles O32: the level's place in the slot is a write of its memory or none, read back by the laws of sparse memories. -/
theorem headRawLevel : Obligations.HeadRawLevel := by
  intro s h v hrest hd c
  refine ⟨fun j p r he hdel hp hw => ?_, fun hoff => ?_⟩
  · let raw := rawAfter c (s.las.base h) p v (s.las.slot j).raw
    have hdue : (s.setSlot j { s.las.slot j with raw := raw }).nothingDue :=
      State.nothingDue_setSlot hrest.2.1 rfl (.inl rfl)
    exact ⟨raw, inService_of_unposted _ hrest (rawLevel_taken v he hdel hp) rfl rfl hdue, get_rawAfter c _ p v hw⟩
  · exact inService_of_unposted _ hrest (rawLevel_thrownAway v hoff) rfl rfl hrest.2.1

end Sys2Proof.SensorHeads
end

section
/-! PROOFS. The statements on line-ends, the lamp monitor and late heads. -/

namespace Sys2Proof.SensorHeads

open Sys2Proof.Machine

/-- Settles O33: the delivery's end is a short or whole slot, then the lamp monitor's case, then the strike of the head. -/
theorem headLineEnd : Obligations.HeadLineEnd := by
  refine ⟨fun s h hrest => ?_, fun notes s => ?_⟩
  · intro hd c turned
    refine ⟨fun j p r he hc hdel hskip => ?_, fun j p r he hc hdel h0 hw hk h4 u sl hcase => ?_, fun he hdel => ?_,
      fun t he hdel => ?_, fun hoff => ?_⟩
    · intro sl owed done settled
      have hline : lineEnd h s = strike j h ((shortNoted h j p s).turn h .idle) :=
        (lineEnd_receiving he hdel).trans (endDelivery_unevaluated r hskip)
      refine ⟨fun hp => ?_, fun hp ht => ?_⟩
      · have hend : lineEnd h s = s.ended h j sl := by
          rw [hline, shortNoted_filled j hp, ← strike_turn s h j sl, State.setSlot_self]
        exact inService_of_unposted _ hrest hend rfl rfl (State.nothingDue_ended hrest.2.1 h sl rfl rfl)
      · let shortened := sl.short h (some (s.las.base h + (p - c.first), s.las.base h + c.count - 1))
        have hend : lineEnd h s = (s.ended h j shortened).withOccurrence .headShort (some h.val) none := by
          rw [hline, shortNoted_short j hc hp ht, State.withOccurrence_setSlot, State.turn_withOccurrence,
            strike_withOccurrence, strike_turn]
        exact inService_of_posted _ hrest hend (State.withOccurrence_lnk ..)
          (State.nothingDue_withOccurrence (State.nothingDue_ended hrest.2.1 h shortened rfl rfl) ..)
    · intro mean owed done finished
      obtain ⟨hshort, hkind, hstate, hlas, hlnk, hact, hdue⟩ :
          shortNoted h j p s = u.setSlot j sl ∧ sl.kind = (u.las.slot j).kind ∧ sl.state = (u.las.slot j).state ∧
            u.las = s.las ∧ u.lnk = s.lnk ∧ u.ict.actions = s.ict.actions ∧ u.nothingDue := by
        rcases hcase with ⟨hp, rfl, rfl⟩ | ⟨hp, ht, rfl, rfl⟩
        · exact ⟨(shortNoted_filled j hp).trans (State.setSlot_self ..).symm, rfl, rfl, rfl, rfl, rfl, hrest.2.1⟩
        · refine ⟨shortNoted_short j hc hp ht, ?_, ?_, State.withOccurrence_las .., State.withOccurrence_lnk ..,
            State.withOccurrence_actions .., State.nothingDue_withOccurrence hrest.2.1 ..⟩ <;>
            rw [State.withOccurrence_las]
      have hfin (low : Bool) : finished low = u.lampEnded h j mean low sl := by
        simp only [finished, State.lampEnded, State.setHead, State.setSlot, hlas]
        rfl
      have hn : h.val < u.las.heads.length := by rw [hlas, h4]; exact h.isLt
      have hline : lineEnd h s = strike j h ((evaluateLamp h mean (u.setSlot j sl)).turn h .idle) :=
        (lineEnd_receiving he hdel).trans (endDelivery_evaluated hshort h0 hw hk)
      have hdone (low : Bool) : (u.lampEnded h j mean low sl).nothingDue :=
        State.nothingDue_lampEnded hdue h mean low sl hkind hstate
      have hlow : hd.lowLive = (u.las.head h).lowLive := by rw [hlas]
      have haction : s.ict.action .referenceLow = u.ict.action .referenceLow := by rw [Ict.action, Ict.action, hact]
      simp only [hfin, hlow, ← hlas, haction]
      refine ⟨fun hl hm ht => ?_, fun hl hm ha => ?_, fun hl hm ha hr => ?_, fun hs => ?_⟩
      · exact inService_of_posted _ hrest (hline.trans (strike_lamp_low hn j sl hl hm ht))
          ((State.withOccurrence_lnk ..).trans hlnk) (State.nothingDue_withOccurrence (hdone true) ..)
      · exact inService_of_posted _ hrest (hline.trans (strike_lamp_ignored hn j sl hl hm ha)) hlnk (hdone false)
      · exact inService_of_posted _ hrest (hline.trans (strike_lamp_cleared hn j sl hl hm ha hr)) hlnk (hdone false)
      · exact inService_of_posted _ hrest (hline.trans (strike_lamp_stays hn j sl hs)) hlnk (hdone _)
    · exact inService_of_unposted _ hrest (lineEnd_discarding he hdel) rfl rfl hrest.2.1
    · exact inService_of_unposted _ hrest (lineEnd_owing he hdel) rfl rfl hrest.2.1
    · exact inService_of_unposted _ hrest (lineEnd_ignored hoff) rfl rfl hrest.2.1
  · exact degradedAtCompletion_iff notes s

/-- Settles O34: in each of the three delivery states that owe the old slot the head is late there by the same rule. -/
theorem headLate : Obligations.HeadLate := by
  intro s h i j _ _ hij hi ht _ _ hd c sl owed done after
  refine ⟨fun hdel => ?_, fun p r hdel => ?_, fun hdel => ?_⟩
  · exact (passTarget_waiting _ hdel).trans (setDelivery_late h 0 .waiting hij hi ht)
  · exact (passTarget_receiving _ hdel).trans (setDelivery_late h _ .owing hij hi ht)
  · exact (passTarget_discarding _ hdel).trans (setDelivery_late h 0 .owing hij hi ht)

end Sys2Proof.SensorHeads
end

section
/-! PROOFS. SET_HEAD: the checks of its fields, the settings it carries, and what an accepted one loads. -/

namespace Sys2Proof.Machine

/-- Outside STOPPING and CALIBRATING no procedure is due. -/
theorem State.nothingDue_of_ended {s : State} (h : s.ict.state = .stopped ∨ s.ict.state = .faulted) : s.nothingDue := by
  rcases h with h | h <;> exact ⟨by simp [h], fun _ _ => by simp [calibrationDue, h]⟩

/-- A listening part that has answered and is STOPPED rests. -/
theorem State.listening.rests_stopped {s t : State} (h : s.listening) (hl : t.lnk = s.lnk) (ht : t.ict.state = .stopped)
    (tag : Byte) (b : ReplyBody) : (t.withReply tag b).rests := by
  obtain ⟨-, hj, hc⟩ := h.rests_withReply tag b
  refine ⟨State.nothingDue_of_ended (.inl ht), ?_, ?_⟩
  · simpa only [State.withReply, hl] using hj
  · simpa only [State.withReply, hl] using hc

/-! ## The checks (R21, Table XI) -/

/-- Five fields of a longer list. -/
theorem getD_take_drop (f : List Nat) (m : Nat) {k : Nat} (hk : k < 5) : ((f.drop m).take 5).getD k 0 = f.getD (m + k) 0 := by
  simp [List.getD, hk]

/-- The checks of one head's five fields, as Table XI states their ranges. -/
theorem headChecks_eq (f : List Nat) (m : Nat) :
    headChecks ((f.drop m).take 5) =
      (let v (k : Nat) : Nat := f.getD (m + k) 0
       [decide (v 0 ≤ 1), decide (v 1 ≤ 2047), decide (1 ≤ v 2 ∧ v 1 + v 2 ≤ 2048), decide (v 3 ≤ 2047),
        decide (v 4 = 0 ∨ (4 ≤ v 4 ∧ v 4 ≤ 64 ∧ v 3 + v 4 ≤ 2048 ∧ (v 3 + v 4 ≤ v 1 ∨ v 1 + v 2 ≤ v 3)))]) := by
  simp only [headChecks, headOfFields, isCode2, inRange, getD_take_drop, Nat.reduceLT, Nat.zero_le, true_and,
    ← Bool.decide_and, ← Bool.decide_or, and_assoc]
  congr 3
  exact decide_eq_decide.mpr ⟨fun h => ⟨h.1, h.2.2⟩, fun h => ⟨h.1, by omega, h.2⟩⟩

/-- The checks of SET_HEAD, as R21 states them. -/
theorem setHeadChecks_eq (f : List Nat) :
    setHeadChecks f =
      [decide (f.getD 0 0 ≤ 1022), decide (f.getD 0 0 < f.getD 1 0 ∧ f.getD 1 0 ≤ 1023)] ++
        (List.range 4).flatMap (fun n => headChecks ((f.drop (2 + 5 * n)).take 5)) := by
  simp only [setHeadChecks, inRange, Nat.zero_le, true_and, Nat.succ_le_iff, List.flatMap]

/-! ## The fields that carry settings -/

/-- The five fields of one head. -/
def HeadSettings.fields (c : HeadSettings) : List Nat :=
  [if c.enabled then 1 else 0, c.first, c.count, c.refFirst, c.refCount]

/-- The settings of one head are legal (Table XI). -/
def HeadSettings.legal (c : HeadSettings) : Prop :=
  1 ≤ c.count ∧ c.first + c.count ≤ 2048 ∧ c.refFirst ≤ 2047 ∧
    (c.refCount = 0 ∨ (4 ≤ c.refCount ∧ c.refCount ≤ 64 ∧ c.refFirst + c.refCount ≤ 2048 ∧
      (c.refFirst + c.refCount ≤ c.first ∨ c.first + c.count ≤ c.refFirst)))

/-- The 22 fields of SET_HEAD. -/
def setHeadFields (lampSet lampClear : Nat) (heads : List HeadSettings) : List Nat :=
  [lampSet, lampClear] ++ heads.flatMap HeadSettings.fields

theorem headOfFields_fields (c : HeadSettings) : headOfFields c.fields = c := by
  obtain ⟨enabled, _, _, _, _⟩ := c
  cases enabled <;> rfl

theorem headsOfFields_fields (lampSet lampClear : Nat) {heads : List HeadSettings} (h : heads.length = 4) :
    headsOfFields (setHeadFields lampSet lampClear heads) = heads := by
  match heads, h with
  | [a, b, c, d], _ =>
    calc headsOfFields (setHeadFields lampSet lampClear [a, b, c, d])
        = [a, b, c, d].map (fun c => headOfFields c.fields) := rfl
      _ = [a, b, c, d] := by simp only [headOfFields_fields, List.map_id']

theorem HeadSettings.checks_ok {c : HeadSettings} (h : c.legal) : allOk (headChecks c.fields) := by
  obtain ⟨hc, hw, hr, hrc⟩ := h
  have he : (if c.enabled then 1 else 0) ≤ 1 := by split <;> decide
  rw [show c.fields = (c.fields.drop 0).take 5 from rfl, headChecks_eq]
  simpa [allOk, HeadSettings.fields, he] using ⟨by omega, ⟨hc, hw⟩, hr, hrc⟩

theorem setHeadFields_ok {lampSet lampClear : Nat} {heads : List HeadSettings} (hl : lampSet < lampClear)
    (hc : lampClear ≤ 1023) (h4 : heads.length = 4) (hh : ∀ c ∈ heads, c.legal) :
    allOk (setHeadChecks (setHeadFields lampSet lampClear heads)) := by
  match heads, h4 with
  | [a, b, c, d], _ =>
    have hsplit : setHeadChecks (setHeadFields lampSet lampClear [a, b, c, d]) =
        [inRange 0 1022 lampSet, inRange (lampSet + 1) 1023 lampClear] ++
          [a, b, c, d].flatMap (fun c => headChecks c.fields) := rfl
    rw [hsplit]
    intro ok hok
    rcases List.mem_append.mp hok with hok | hok
    · simp only [List.mem_cons, List.not_mem_nil, or_false] at hok
      rcases hok with rfl | rfl <;> exact decide_eq_true (by omega)
    · obtain ⟨c, hm, hok⟩ := List.mem_flatMap.mp hok
      exact HeadSettings.checks_ok (hh c hm) ok hok

theorem setHeadFields_fit {lampSet lampClear : Nat} {heads : List HeadSettings} (hl : lampSet < lampClear)
    (hc : lampClear ≤ 1023) (h4 : heads.length = 4) (hh : ∀ c ∈ heads, c.legal) :
    fitsWidths Request.setHead.fieldWidths (setHeadFields lampSet lampClear heads) := by
  have hfit (c : HeadSettings) (h : c.legal) : ∀ p ∈ [1, 2, 2, 2, 1].zip c.fields, p.2 < 256 ^ p.1 := by
    obtain ⟨hcount, hw, hr, hrc⟩ := h
    have he : (if c.enabled then 1 else 0) ≤ 1 := by split <;> decide
    simp only [HeadSettings.fields, List.zip_cons_cons, List.zip_nil_right, List.forall_mem_cons, List.not_mem_nil,
      false_imp_iff, implies_true, and_true]
    omega
  match heads, h4 with
  | [a, b, c, d], _ =>
    refine ⟨rfl, fun p hp => ?_⟩
    have hsplit : Request.setHead.fieldWidths.zip (setHeadFields lampSet lampClear [a, b, c, d]) =
        [(2, lampSet), (2, lampClear)] ++ [a, b, c, d].flatMap (fun c => [1, 2, 2, 2, 1].zip c.fields) := rfl
    rw [hsplit] at hp
    rcases List.mem_append.mp hp with hp | hp
    · simp only [List.mem_cons, List.not_mem_nil, or_false] at hp
      rcases hp with rfl | rfl <;> simp only [Nat.reducePow] <;> omega
    · obtain ⟨c, hm, hp⟩ := List.mem_flatMap.mp hp
      exact hfit c (hh c hm) p hp

/-! ## Lanes that do not fit (R21) -/

theorem lanesFit_iff (s : State) (width : Nat) :
    lanesFit s width = true ↔ ∀ l ∈ s.lnc, ∀ c, l.settings = some c → c.last < width := by
  simp only [lanesFit, List.all_eq_true]
  refine forall₂_congr fun l _ => ?_
  cases l.settings <;> simp

/-- The last number below `k` that a test passes. -/
theorem getLast?_filter_range (p : Nat → Bool) {n k : Nat} (hn : n < k) (hp : p n = true)
    (ha : ∀ m < k, n < m → p m = false) : ((List.range k).filter p).getLast? = some n := by
  induction k with
  | zero => omega
  | succ k ih =>
    rw [List.range_succ, List.filter_append, List.filter_singleton]
    by_cases hk : n = k
    · subst hk
      simp [hp]
    · rw [ha k (Nat.lt_succ_self k) (by omega)]
      simpa using ih (by omega) fun m hm => ha m (by omega)

theorem narrowIndex_last {heads : List HeadSettings} {n : Nat} (hn : n < 4)
    (he : (heads.getD n HeadSettings.default).enabled = true)
    (ha : ∀ m < 4, n < m → (heads.getD m HeadSettings.default).enabled = false) : narrowIndex heads = 4 + 5 * n := by
  simp only [narrowIndex, getLast?_filter_range (fun m => (heads.getD m HeadSettings.default).enabled) hn he ha]

theorem narrowIndex_none {heads : List HeadSettings} (h : ∀ c ∈ heads, c.enabled = false) : narrowIndex heads = 2 := by
  have hoff (m : Nat) : (heads.getD m HeadSettings.default).enabled = false := by
    by_cases hm : m < heads.length
    · simpa [List.getD, hm] using h _ (List.getElem_mem hm)
    · simp [List.getD, List.getElem?_eq_none (Nat.le_of_not_lt hm), HeadSettings.default]
  have hnone : (List.range 4).filter (fun n => (heads.getD n HeadSettings.default).enabled) = [] :=
    List.filter_eq_nil_iff.mpr fun m _ => by rw [hoff m]; decide
  rw [narrowIndex, hnone]
  rfl

/-! ## An accepted SET_HEAD (R22) -/

/-- The settings of a head's lamp monitor change with these. -/
def HeadSettings.lampChanged (old c : HeadSettings) : Bool :=
  old.enabled != c.enabled || old.refFirst != c.refFirst || old.refCount != c.refCount

theorem Head.takeSettings_eq (old : Head) (c : HeadSettings) :
    old.takeSettings c =
      { settings := c, delivery := if old.settings = c then old.delivery else .idle
        lastMean := if old.settings.lampChanged c then none else old.lastMean
        lowLive := if old.settings.lampChanged c then false else old.lowLive } := by
  simp only [Head.takeSettings, HeadSettings.lampChanged, Bool.or_eq_true, bne_iff_ne, or_assoc]

/-- The part with every setting of SET_HEAD in force, before any return to normal. -/
def State.withHeads (s : State) (lampSet lampClear : Nat) (heads : List HeadSettings) : State :=
  { s with
    las := { s.las with
      lampSet := lampSet, lampClear := lampClear, geometry := geometryOf heads
      heads := List.zipWith Head.takeSettings s.las.heads heads }
    ffc := if geometryOf heads = s.las.geometry then s.ffc else
      { s.ffc with dark := { s.ffc.dark with loaded := [] }, gain := { s.ffc.gain with loaded := [] } } }

/-- The heads that SET_HEAD returns to normal: low before, and no longer low. -/
def State.returned (s : State) (heads : List HeadSettings) : List Nat :=
  s.las.lowHeads.filter (fun h => !((List.zipWith Head.takeSettings s.las.heads heads).getD h Head.reset).lowLive)

theorem loadHeads_eq (lampSet lampClear : Nat) (heads : List HeadSettings) (s : State) :
    loadHeads lampSet lampClear heads s =
      (s.returned heads).foldl (fun s h => returnToNormal h s) (s.withHeads lampSet lampClear heads) := by
  unfold loadHeads State.withHeads State.returned
  by_cases hg : geometryOf heads = s.las.geometry
  · simp only [hg, ne_eq, not_true_eq_false, decide_false]
    rfl
  · simp only [hg, ne_eq, not_false_eq_true, decide_true]
    rfl

/-- The settings in force are those given. -/
theorem State.withHeads_headSettings {s : State} {heads : List HeadSettings} (lampSet lampClear : Nat)
    (h : heads.length = s.las.heads.length) : (s.withHeads lampSet lampClear heads).las.headSettings = heads := by
  refine List.ext_getElem (by simp [Las.headSettings, State.withHeads, h]) fun i hi hi' => ?_
  simp [Las.headSettings, State.withHeads, Head.takeSettings]

/-- A head that was low and whose lamp settings change is returned to normal. -/
theorem State.returned_one {s : State} {heads : List HeadSettings} {h : Nat} (h4 : s.las.heads.length = 4)
    (hlen : heads.length = 4) (hl : s.las.lowHeads = [h])
    (hc : (s.las.head h).settings.lampChanged (heads.getD h HeadSettings.default) = true) : s.returned heads = [h] := by
  have hlt : h < 4 := by
    have : h ∈ s.las.lowHeads := by rw [hl]; exact List.mem_singleton.mpr rfl
    exact List.mem_range.mp (List.mem_filter.mp this).1
  have hs : h < s.las.heads.length := by omega
  have hh : h < heads.length := by omega
  have hz : ((List.zipWith Head.takeSettings s.las.heads heads).getD h Head.reset).lowLive = false := by
    simp only [Las.head, List.getD, hs, hh, List.getElem?_eq_getElem, Option.getD_some] at hc
    simp [List.getD, hs, hh, Head.takeSettings_eq, hc]
  rw [State.returned, hl, List.filter_singleton, hz]
  rfl

section
variable {s : State} {lampSet lampClear : Nat} {heads : List HeadSettings} (tag : Byte)
  (hok : allOk (setHeadChecks (setHeadFields lampSet lampClear heads))) (h4 : heads.length = 4)
include hok h4

/-- A SET_HEAD that every lane fits is loaded, and answered with what stands then. -/
theorem handleSetHead_fits (hlen : heads.length = s.las.heads.length) (hfit : lanesFit s (enabledWidth heads) = true)
    {t : State} (ht : loadHeads lampSet lampClear heads s = t) (hl : t.las = (s.withHeads lampSet lampClear heads).las) :
    handleSetHead tag (setHeadFields lampSet lampClear heads) s =
      t.withReply tag
        (.done (.setHead lampSet lampClear heads (enabledWidth heads) (decide (geometryOf heads ≠ s.las.geometry)))) := by
  have hload : loadHeads ((setHeadFields lampSet lampClear heads).getD 0 0)
      ((setHeadFields lampSet lampClear heads).getD 1 0) heads s = t := ht
  simp only [handleSetHead, firstFailing_of_allOk hok, headsOfFields_fields lampSet lampClear h4, if_pos hfit, hload, hl,
    Las.width, State.withHeads_headSettings lampSet lampClear hlen]
  rfl

theorem handleSetHead_narrow (hfit : lanesFit s (enabledWidth heads) ≠ true) :
    handleSetHead tag (setHeadFields lampSet lampClear heads) s =
      s.withReply tag (.refused 0x10 .badValue (narrowIndex heads)) := by
  simp only [handleSetHead, firstFailing_of_allOk hok, headsOfFields_fields lampSet lampClear h4, if_neg hfit]
  rfl

end

theorem handle_setHead {s : State} {f : List Nat} (tag : Byte) (hf : fitsWidths Request.setHead.fieldWidths f) :
    handle .setHead tag (fieldBytes Request.setHead.fieldWidths f) s = handleSetHead tag f s := by
  simp only [handle, readFields_fieldBytes hf]

end Sys2Proof.Machine
end

section
/-! PROOFS. The statement on SET_HEAD. -/

namespace Sys2Proof.SensorHeads

open Sys2Proof.Machine

/-- Settles O35: refused as every request of STOPPED alone is; with legal fields the lanes decide between the narrow refusal and the
loading of every setting, whose one return to normal finds room. -/
theorem setHead : Obligations.SetHead := by
  intro s tag h
  refine ⟨refusedAsStated_of_badValue h (by decide) _ tag fun f i hf hi => ?_, ?_⟩
  · rw [handle_setHead tag hf, handleSetHead, setHeadChecks_eq]
    simp only [headChecks_eq]
    rw [firstFailing_of_firstBad hi]
  · intro lampSet lampClear heads hs hlamp hclear hlen h4 hlegal width row geometry changed new done fits
    have hfit := setHeadFields_fit hlamp hclear hlen hlegal
    have hok := setHeadFields_ok hlamp hclear hlen hlegal
    have hfits : lanesFit s (enabledWidth heads) = true ↔ fits := lanesFit_iff s width
    have run {t : State} (ht : handleSetHead tag (setHeadFields lampSet lampClear heads) s = t) (hr : t.rests) :
        exec row s = .next t.sends :=
      exec_rowOf_handled h (by rw [hs]; rfl) (by decide) tag hfit ((handle_setHead tag hfit).trans ht) hr
    have hnew : s.withHeads lampSet lampClear heads = new := by
      rw [State.withHeads, show Head.takeSettings = _ from funext fun old => funext (Head.takeSettings_eq old)]
      rfl
    have loaded {t : State} (hf : fits) (ht : loadHeads lampSet lampClear heads s = t) (hl : t.las = new.las) :
        handleSetHead tag (setHeadFields lampSet lampClear heads) s = t.withReply tag done :=
      handleSetHead_fits tag hok hlen (hlen.trans h4.symm) (hfits.mpr hf) ht (hl.trans (by rw [hnew]))
    refine ⟨fun hf hlow => ?_, fun n hf hlow hch ha hr => ?_, fun hf n hn he habove => ?_, fun hf hoff => ?_⟩
    · refine run (loaded hf ?_ rfl) (h.rests_stopped (t := new) rfl hs _ _)
      rw [loadHeads_eq, State.returned, hlow, ← hnew]
      rfl
    · refine run (loaded hf ?_ rfl) (h.rests_stopped (t := new.withReport _) rfl hs _ _)
      rw [loadHeads_eq, State.returned_one h4 hlen hlow hch, ← hnew]
      exact returnToNormal_room (s := s.withHeads lampSet lampClear heads) ha hr
    · rw [← narrowIndex_last hn he habove]
      exact run (handleSetHead_narrow tag hok hlen (mt hfits.mp hf)) (h.rests_withReply _ _)
    · rw [← narrowIndex_none hoff]
      exact run (handleSetHead_narrow tag hok hlen (mt hfits.mp hf)) (h.rests_withReply _ _)

end Sys2Proof.SensorHeads
end

section
/-! PROOFS. What a post leaves alone short of MEMORY_FATAL, and what MEMORY_FATAL ends in. -/

namespace Sys2Proof.Machine

/-! ## Reading tracks -/

/-- A track read after a track has been written. -/
theorem State.track_setTrack (s : State) (i j : Nat) (t : Track) :
    (s.setTrack i t).track j = if j = i ∧ i < s.trk.slots.length then t else s.track j := by
  split
  · next h => rw [h.1, State.track_setTrack_same s i t h.2]
  · next h =>
    by_cases hj : j = i
    · subst hj
      have : ¬j < s.trk.slots.length := fun hl => h ⟨rfl, hl⟩
      simp [State.track, Trk.slot, State.setTrack, List.getD, this]
    · exact State.track_setTrack_other s i j t hj

/-- A track of a slot number beyond the last reads as FREE. -/
theorem State.track_of_le {s : State} {i : Nat} (h : s.trk.slots.length ≤ i) : s.track i = Track.blank := by
  simp [State.track, Trk.slot, List.getD, List.getElem?_eq_none h]

/-- A freed track is FREE, and no other changes. -/
theorem State.track_freeTrack (s : State) (i j : Nat) :
    (s.freeTrack i).track j = if j = i then Track.blank else s.track j := by
  have : (s.freeTrack i).track j = (s.setTrack i Track.blank).track j := rfl
  rw [this, State.track_setTrack]
  by_cases hj : j = i
  · subst hj
    by_cases hl : j < s.trk.slots.length
    · rw [if_pos ⟨rfl, hl⟩, if_pos rfl]
    · rw [if_neg (fun h => hl h.2), if_pos rfl, State.track_of_le (Nat.le_of_not_lt hl)]
  · rw [if_neg (fun h => hj h.1), if_neg hj]

theorem State.track_dropAll (s : State) (j : Nat) : s.dropAll.track j = Track.blank :=
  List.getElem?_getD_replicate_default_eq _ _ _

/-- Writing a track with the state it has leaves every track its state. -/
theorem State.track_setTrack_state (s : State) (i j : Nat) (t : Track) (h : t.state = (s.track i).state) :
    ((s.setTrack i t).track j).state = (s.track j).state := by
  rw [State.track_setTrack]
  split
  · next hj => rw [h, hj.1]
  · rfl

/-- The repair of a record leaves every track its state. -/
theorem State.track_repair_state (s : State) (i j : Nat) (l : List Health) :
    ((s.setTrack i { s.track i with wrongWords := l }).track j).state = (s.track j).state :=
  State.track_setTrack_state s i j _ rfl

/-! ## What MEMORY_FATAL ends in (R180) -/

/-- FAULTED, with no OPEN track: what MEMORY_FATAL ends in. -/
def State.shut (s : State) : Prop := s.ict.state = .faulted ∧ ∀ id, (s.track id).state ≠ .open

/-- Once shut a part stays shut whatever is posted. -/
theorem shut_stable : Stable State.shut where
  take _ _ _ h := h
  count _ _ h := h
  stop s _ hr h := absurd (h.1.symm.trans hr) (by decide)
  words s id l h := ⟨h.1, fun j => by rw [State.track_repair_state]; exact h.2 j⟩
  free s id _ h := ⟨h.1, fun j => by
    rw [State.track_freeTrack]
    split
    · decide
    · exact h.2 j⟩
  release s h := by
    simp only [State.releaseLine]
    split <;> exact h
  abort _ h := h
  drop s h := ⟨h.1, fun j => by rw [State.track_dropAll]; decide⟩
  lanes _ h := h
  fatal _ h := ⟨rfl, h.2⟩
  finish s d h := by
    simp only [State.finishRequest]
    split
    · split <;> exact h
    · exact h
    · exact h

/-- A property that a post keeps short of MEMORY_FATAL, which ends it anyway: it holds of every shut part, and the taking of a report,
an occurrence's count, the entry into STOPPING, the repair of a wrong record and the freeing of a HELD track keep it. -/
structure Spared (P : State → Prop) : Prop where
  take : ∀ s r close, P s → P { s with rpq := (s.rpq.take r close).1 }
  count : ∀ s src, P s → P { s with ict := s.ict.count src }
  stop : ∀ s cause, s.ict.state = .running → P s →
    P { s with ict := { s.ict with state := .stopping, lastStop := cause, limitPending := false } }
  words : ∀ s id l, (s.track id).wrongWords ≠ [] → P s → P (s.setTrack id { s.track id with wrongWords := l })
  free : ∀ s id, (s.track id).state = .held → P s → P (s.freeTrack id)
  shut : ∀ s, s.shut → P s

namespace Spared

variable {P : State → Prop} (hP : Spared P) {post : Post} (hp : ∀ r c s, P s → P (post r c s))

include hP hp

theorem occurWith (src : Source) (d l : Option Nat) (s : State) (h : P s) : P (occurWith post src d l s) := by
  simp only [Machine.occurWith, Machine.beginStopWith, Machine.enterStateWith]
  have h1 := hP.count s src h
  split <;> split
  · next hr => exact hp _ _ _ (hP.stop _ _ hr.2 (hp _ _ _ h1))
  · exact hp _ _ _ h1
  · next hr => exact hp _ _ _ (hP.stop _ _ hr.2 h1)
  · exact h1

variable (hm : ∀ s, (memoryFatalWith post s).shut)

include hm

theorem readRecordWith (id : Nat) (s : State) (h : P s) : P (readRecordWith post id s) := by
  have hc (n : Nat) (u : State) (hu : P u) : P (correctedWith post n u) := by
    induction n generalizing u with
    | zero => exact hu
    | succ n ih => exact ih _ (hP.occurWith hp _ _ _ u hu)
  simp only [Machine.readRecordWith]
  split
  · exact h
  · next hw =>
    have h1 := hc ((s.track id).wrongWords.takeWhile (fun x => x ≠ .double) |>.countP (fun x => x = .single)) _
      (hP.words s id ((s.track id).wrongWords.dropWhile (fun x => x ≠ .double)) (by simpa using hw) h)
    split
    · exact h1
    · exact hP.shut _ (hm _)

theorem takeNoticeWith (n : Notice) (s : State) (h : P s) : P (takeNoticeWith post n s) := by
  simp only [Machine.takeNoticeWith]
  have h1 := hP.readRecordWith hp hm n.id s h
  split
  · next hh => exact hP.free _ _ hh.1 h1
  · exact h1

theorem postWith (r : Report) (c : Option Notice) (s : State) (h : P s) : P (postWith post r c s) := by
  simp only [Machine.postWith]
  have h1 := hP.take s r c h
  split
  · next q hq => rw [hq] at h1; exact h1
  · next q m hq => rw [hq] at h1; exact hP.takeNoticeWith hp hm m _ h1

end Spared

/-- In FAULTED no track is OPEN. -/
def State.shutIfFaulted (s : State) : Prop := s.ict.state = .faulted → ∀ id, (s.track id).state ≠ .open

theorem shutIfFaulted_spared : Spared State.shutIfFaulted where
  take _ _ _ h := h
  count _ _ h := h
  stop _ _ _ _ := fun h => absurd h (show Inspection.stopping ≠ .faulted by decide)
  words s id l _ h := fun hf j => by rw [State.track_repair_state]; exact h hf j
  free s id _ h := fun hf j => by
    rw [State.track_freeTrack]
    split
    · decide
    · exact h hf j
  shut _ h := fun _ => h.2

/-- MEMORY_FATAL shuts the part, when its posts keep a part shut once it is FAULTED. -/
theorem memoryFatalWith_shut {post : Post} (hs : ∀ r c s, State.shut s → State.shut (post r c s))
    (hf : ∀ r c s, State.shutIfFaulted s → State.shutIfFaulted (post r c s)) (s : State) :
    (memoryFatalWith post s).shut := by
  have hdrop (u : State) : ∀ id, (u.dropAll.track id).state ≠ .open := fun id => by rw [State.track_dropAll]; decide
  simp only [memoryFatalWith]
  split
  · next h => exact ⟨h, hdrop _⟩
  · next h =>
    have hr : (State.releaseLine { s with ict := s.ict.count .memoryFatal }).ict.state ≠ .faulted := by
      simp only [State.releaseLine]
      split <;> exact h
    have ha : (abortCalibrationWith post (State.releaseLine { s with ict := s.ict.count .memoryFatal })).shutIfFaulted := by
      simp only [abortCalibrationWith]
      split
      · split
        · exact hf _ _ _ fun h => absurd h hr
        · exact fun h => absurd h hr
      · exact fun h => absurd h hr
    simp only [State.unlessFaulted]
    split
    · next h => exact ⟨h, ha h⟩
    · exact shut_stable.finish _ _ (hs _ _ _ (hs _ _ _ ⟨rfl, hdrop _⟩))

/-- A post of any depth keeps what is spared. -/
theorem Spared.postDepth (n : Nat) {P : State → Prop} (hP : Spared P) (r : Report) (c : Option Notice) (s : State) (h : P s) :
    P (postDepth n r c s) := by
  induction n generalizing P r c s with
  | zero => exact hP.take s r c h
  | succ n ih =>
    have hm (u : State) : (memoryFatalWith (Machine.postDepth n) u).shut :=
      memoryFatalWith_shut (shut_stable.postDepth n) (ih shutIfFaulted_spared) u
    exact hP.postWith (ih hP) hm r c s h

/-- MEMORY_FATAL shuts the part. -/
theorem memoryFatal_shut (s : State) : (memoryFatal s).shut :=
  memoryFatalWith_shut shut_stable.post (shutIfFaulted_spared.postDepth 5) s

namespace Spared

variable {P : State → Prop} (hP : Spared P)

include hP

/-- A post keeps what is spared. -/
theorem post (r : Report) (c : Option Notice) (s : State) (h : P s) : P (Machine.post r c s) := hP.postDepth 5 r c s h

theorem occur (src : Source) (d l : Option Nat) (s : State) (h : P s) : P (Machine.occur src d l s) :=
  hP.occurWith hP.post src d l s h

theorem readRecord (id : Nat) (s : State) (h : P s) : P (Machine.readRecord id s) :=
  hP.readRecordWith hP.post memoryFatal_shut id s h

end Spared

/-! ## The link (R161) -/

/-- With no request in progress the link is no part of a post. -/
theorem lnk_stable {l : Lnk} (hl : l.inProgress = none) : Stable fun s => s.lnk = l where
  take _ _ _ h := h
  count _ _ h := h
  stop _ _ _ h := h
  words _ _ _ h := h
  free _ _ _ h := h
  release s h := by
    simp only [State.releaseLine]
    split <;> exact h
  abort _ h := h
  drop _ h := h
  lanes _ h := h
  fatal _ h := h
  finish s d h := by
    have hn : s.lnk.inProgress = none := by rw [h, hl]
    simpa only [State.finishRequest, hn] using h

/-- An event ends as one does whose procedures leave the same part. -/
theorem settle_of_finished {t u : State} (h : finishProcedures t = u) (hu : u.nothingDue) : settle t = settle u := by
  simp only [settle, h, finishProcedures_of_nothingDue u hu]

/-- An event of a part at rest after which a procedure runs to its end, leaving the link alone. -/
theorem inService_of_finished (event : State → State) {s t u : State} (h : s.atRest) (ht : event s = t)
    (hf : finishProcedures t = u) (hl : u.lnk = s.lnk) (hd : u.nothingDue) : inService event s = .next u.sends := by
  obtain ⟨hh, -, hc, hs⟩ := h
  have he : settle u = u.sends :=
    settle_of_posted u hd (by rw [hl]; exact hc) (by rw [hl]; exact fun hx => (hs hx).1)
  simp [inService, hh, ht, settle_of_finished hf hd, he]

end Sys2Proof.Machine
end

section
/-! PROOFS. The handover of a line: the slot that is handed over, and the correction of a RUN line word by word. -/

namespace Sys2Proof.Machine

/-! ## The slot handed over (R31) -/

/-- The slot below `n` that LAS hands over of a kind: of the COMPLETE ones the one with the least key, and of those the first. -/
def Las.firstBy (l : Las) (key : Slot → Nat) (kind : LineKind) (n : Nat) : Option Nat :=
  (List.range n).foldl
    (fun best i =>
      if (l.slot i).state = .complete ∧ ((l.slot i).kind == kind) = true then
        match best with
        | none => some i
        | some b => if key (l.slot i) < key (l.slot b) then some i else some b
      else best)
    none

/-- A slot below `n` is COMPLETE and of a kind. -/
def Las.offers (l : Las) (kind : LineKind) (n k : Nat) : Prop :=
  k < n ∧ (l.slot k).state = .complete ∧ (l.slot k).kind = kind

/-- Slot `i` goes before every other offered one, by its key and then by its index. -/
def Las.leads (l : Las) (key : Slot → Nat) (kind : LineKind) (n i : Nat) : Prop :=
  l.offers kind n i ∧ ∀ j, l.offers kind n j → key (l.slot i) ≤ key (l.slot j) ∧ (key (l.slot i) = key (l.slot j) → i ≤ j)

theorem Las.offers_succ {l : Las} {kind : LineKind} {n k : Nat} :
    l.offers kind (n + 1) k ↔ l.offers kind n k ∨ k = n ∧ (l.slot n).state = .complete ∧ (l.slot n).kind = kind := by
  unfold Las.offers
  constructor
  · rintro ⟨hk, h⟩
    by_cases hn : k = n
    · exact .inr ⟨hn, hn ▸ h⟩
    · exact .inl ⟨by omega, h⟩
  · rintro (⟨hk, h⟩ | ⟨rfl, h⟩)
    · exact ⟨by omega, h⟩
    · exact ⟨Nat.lt_succ_self k, h⟩

/-- The search finds the slot that leads, and none when no slot is offered. -/
theorem Las.firstBy_spec (l : Las) (key : Slot → Nat) (kind : LineKind) (n : Nat) :
    (l.firstBy key kind n = none ∧ ∀ k, ¬l.offers kind n k) ∨ ∃ i, l.firstBy key kind n = some i ∧ l.leads key kind n i := by
  induction n with
  | zero => exact .inl ⟨rfl, fun k h => absurd h.1 (Nat.not_lt_zero k)⟩
  | succ n ih =>
    have hstep : l.firstBy key kind (n + 1) =
        if (l.slot n).state = .complete ∧ ((l.slot n).kind == kind) = true then
          match l.firstBy key kind n with
          | none => some n
          | some b => if key (l.slot n) < key (l.slot b) then some n else some b
        else l.firstBy key kind n := by
      simp only [Las.firstBy, List.range_succ, List.foldl_append, List.foldl_cons, List.foldl_nil]
    by_cases hn : (l.slot n).state = .complete ∧ (l.slot n).kind = kind
    · have hoff : l.offers kind (n + 1) n := Las.offers_succ.mpr (.inr ⟨rfl, hn⟩)
      rw [if_pos (by simpa using hn)] at hstep
      rcases ih with ⟨hnone, hno⟩ | ⟨b, hb, hlead⟩
      · rw [hnone] at hstep
        refine .inr ⟨n, hstep, hoff, fun j hj => ?_⟩
        rcases Las.offers_succ.mp hj with hj | ⟨rfl, -⟩
        · exact absurd hj (hno j)
        · exact ⟨le_rfl, fun _ => le_rfl⟩
      · rw [hb] at hstep
        by_cases hlt : key (l.slot n) < key (l.slot b)
        · refine .inr ⟨n, hstep.trans (if_pos hlt), hoff, fun j hj => ?_⟩
          rcases Las.offers_succ.mp hj with hj | ⟨rfl, -⟩
          · have := (hlead.2 j hj).1
            omega
          · exact ⟨le_rfl, fun _ => le_rfl⟩
        · refine .inr ⟨b, hstep.trans (if_neg hlt), Las.offers_succ.mpr (.inl hlead.1), fun j hj => ?_⟩
          rcases Las.offers_succ.mp hj with hj | ⟨rfl, -⟩
          · exact hlead.2 j hj
          · exact ⟨Nat.le_of_not_lt hlt, fun _ => Nat.le_of_lt hlead.1.1⟩
    · rw [if_neg (by simpa using hn)] at hstep
      have hsame (k : Nat) : l.offers kind (n + 1) k ↔ l.offers kind n k :=
        Las.offers_succ.trans (or_iff_left fun h => hn h.2)
      rw [hstep]
      simpa only [Las.leads, hsame] using ih

theorem Las.firstBy_of_leads {l : Las} {key : Slot → Nat} {kind : LineKind} {n i : Nat} (h : l.leads key kind n i) :
    l.firstBy key kind n = some i := by
  rcases l.firstBy_spec key kind n with ⟨-, hno⟩ | ⟨j, hj, hlead⟩
  · exact absurd h.1 (hno i)
  · have hij := h.2 j hlead.1
    have hji := hlead.2 i h.1
    have hkey : key (l.slot i) = key (l.slot j) := Nat.le_antisymm hij.1 hji.1
    rw [hj, Nat.le_antisymm (hij.2 hkey) (hji.2 hkey.symm)]

theorem Las.firstBy_none {l : Las} (key : Slot → Nat) {kind : LineKind} {n : Nat} (h : ∀ k, ¬l.offers kind n k) :
    l.firstBy key kind n = none := by
  rcases l.firstBy_spec key kind n with ⟨hnone, -⟩ | ⟨j, -, hlead⟩
  · exact hnone
  · exact absurd hlead.1 (h j)

theorem handoverSlot_running {s : State} (hp : s.las.processing = none) (hs : s.ict.state = .running) :
    handoverSlot s = s.las.firstBy (·.number) .run 8 := by
  simp only [handoverSlot, hp, hs]
  rfl

theorem handoverSlot_calibrating {s : State} (hp : s.las.processing = none) (hs : s.ict.state = .calibrating) :
    handoverSlot s = s.las.firstBy (·.claim) .calibration 8 := by
  simp only [handoverSlot, hp, hs]
  rfl

/-- With a line in processing, outside RUNNING and CALIBRATING, or with no COMPLETE slot no slot is handed over. -/
theorem handoverSlot_none {s : State}
    (h : s.las.processing ≠ none ∨ s.ict.state = .stopped ∨ s.ict.state = .stopping ∨ s.ict.state = .faulted ∨
      (∀ j < 8, (s.las.slot j).state ≠ .complete)) : handoverSlot s = none := by
  by_cases hp : s.las.processing = none
  · rcases h with h | h | h | h | h
    · exact absurd hp h
    · simp only [handoverSlot, hp, h]
    · simp only [handoverSlot, hp, h]
    · simp only [handoverSlot, hp, h]
    · cases hs : s.ict.state with
      | running => rw [handoverSlot_running hp hs]; exact Las.firstBy_none _ fun k hk => h k hk.1 hk.2.1
      | calibrating => rw [handoverSlot_calibrating hp hs]; exact Las.firstBy_none _ fun k hk => h k hk.1 hk.2.1
      | _ => simp only [handoverSlot, hp, hs]
  · obtain ⟨p, hp⟩ := Option.ne_none_iff_exists'.mp hp
    simp only [handoverSlot, hp]

/-- The part with the line of a slot in processing. -/
def State.handedOver (s : State) (i : Nat) : State :=
  { s with las := { s.las with processing := some { slot := i, lnc := false, spd := false, sti := false } } }

theorem handover_none {s : State} (h : handoverSlot s = none) : handover s = s := by
  simp only [handover, h]

theorem handover_run {s : State} {i : Nat} (h : handoverSlot s = some i) (hk : (s.las.slot i).kind = .run) :
    handover s = correctLine i (s.handedOver i) := by
  have : Slot.kind (Las.slot { s.las with processing := some { slot := i, lnc := false, spd := false, sti := false } } i) =
      .run := hk
  simp only [handover, h, this]
  rfl

theorem handover_calibration {s : State} {i : Nat} (h : handoverSlot s = some i)
    (hk : (s.las.slot i).kind = .calibration) : handover s = takeCalibrationLine i (s.handedOver i) := by
  have : Slot.kind (Las.slot { s.las with processing := some { slot := i, lnc := false, spd := false, sti := false } } i) =
      .calibration := hk
  simp only [handover, h, this]
  rfl

/-! ## Table words (R44, R45) -/

/-- The words of a table after one has been written. -/
theorem Ffc.word_write {f : Ffc} {id : TableId} (hw : Sparse.wf id.defaultWord (f.table id).words = true) (k v : Nat)
    (t : TableId) (c : Nat) :
    (f.write id k v).word t c = if t = id ∧ c = k then { val := v, health := .good } else f.word t c := by
  by_cases ht : t = id
  · subst ht
    have htable : ((f.write t k v).table t).words = Sparse.set t.defaultWord (f.table t).words k { val := v, health := .good } := by
      cases t <;> rfl
    by_cases hc : c = k
    · rw [if_pos ⟨rfl, hc⟩, hc, Ffc.word, htable, Sparse.get_set_same _ _ _ _ 0 hw]
    · rw [if_neg (fun h => hc h.2), Ffc.word, htable, Sparse.get_set_other _ _ _ _ _ 0 hw hc]
      rfl
  · rw [if_neg (fun h => ht h.1)]
    match t, id, ht with
    | .dark, .gain, _ => rfl
    | .gain, .dark, _ => rfl

/-- A word written back as the check corrects it is the correction of R44. -/
theorem Ffc.corrected_write {f : Ffc} {id : TableId} (hw : Sparse.wf id.defaultWord (f.table id).words = true) (k : Nat) :
    f.corrected id k (f.write id k (f.word id k).val) := by
  refine ⟨Ffc.word_write hw k _, ?_⟩
  cases id <;> exact ⟨rfl, rfl, rfl, rfl, rfl, rfl, rfl⟩

theorem wf_table_of_memoryWf {s : State} (h : s.memoryWf = true) (id : TableId) :
    Sparse.wf id.defaultWord (s.ffc.table id).words = true := by
  simp only [State.memoryWf, Bool.and_eq_true] at h
  obtain ⟨⟨⟨⟨⟨hdark, hgain⟩, -⟩, -⟩, -⟩, -⟩ := h
  cases id
  · exact hdark
  · exact hgain

/-- The part once a word with one wrong bit has been read: written back right, with its MEMORY_CORRECTED. -/
def State.repaired (s : State) (id : TableId) (c : Nat) : State :=
  State.withOccurrence { s with ffc := s.ffc.write id c (s.ffc.word id c).val } .memoryCorrected none none

theorem readWord_good {s : State} {id : TableId} {c : Nat} (h : (s.ffc.word id c).health = .good) :
    readWord id c s = (s, some (s.ffc.word id c).val) := by
  simp only [readWord, h]

theorem readWord_single {s : State} {id : TableId} {c : Nat} (h : (s.ffc.word id c).health = .single)
    (ht : s.takes .memoryCorrected) : readWord id c s = (s.repaired id c, some (s.ffc.word id c).val) := by
  simp only [readWord, h]
  exact congrArg (·, _) (occur_of_takes { s with ffc := s.ffc.write id c (s.ffc.word id c).val } _ _ _ ht)

theorem readWord_double {s : State} {id : TableId} {c : Nat} (h : (s.ffc.word id c).health = .double) :
    readWord id c s = (memoryFatal { s with ffc := s.ffc.struck id c }, none) := by
  simp only [readWord, h]
  rfl

/-! ## The corrected line (R37, R38) -/

/-- A column is no-data when a head's range of the slot holds it. -/
theorem Slot.isNoData_iff (sl : Slot) (c : Nat) :
    sl.isNoData c = true ↔ ∃ lo hi, some (lo, hi) ∈ sl.noData ∧ lo ≤ c ∧ c ≤ hi := by
  simp only [Slot.isNoData, List.any_eq_true]
  constructor
  · rintro ⟨_ | ⟨lo, hi⟩, hm, h⟩
    · simp at h
    · exact ⟨lo, hi, hm, by simpa using h⟩
  · rintro ⟨lo, hi, hm, h⟩
    exact ⟨some (lo, hi), hm, by simpa using h⟩

/-- The pixel that correction gives a column. -/
def State.pixelAt (s : State) (sl : Slot) (c : Nat) : Pixel :=
  if sl.isNoData c then .noData
  else correctedPixel (Sparse.get 0 sl.raw c) (s.ffc.word .dark c).val (s.ffc.word .gain c).val

/-- Both words of a column are right. -/
def State.goodAt (s : State) (c : Nat) : Prop :=
  (s.ffc.word .dark c).health = .good ∧ (s.ffc.word .gain c).health = .good

section
variable {sl : Slot} {c : Nat} (cs : List Nat) (done : List Pixel) {s : State}

theorem correctColumns_noData (h : sl.isNoData c = true) :
    correctColumns sl (c :: cs) done s = correctColumns sl cs (.noData :: done) s := by
  simp only [correctColumns, if_pos h]

variable (hn : sl.isNoData c = false)
include hn

/-- A column whose two words are read, with no MEMORY_FATAL. -/
theorem correctColumns_read {s1 s2 : State} {d g : Nat} (hd : readWord .dark c s = (s1, some d))
    (h1 : s1.ict.state ≠ .faulted) (hg : readWord .gain c s1 = (s2, some g)) (h2 : s2.ict.state ≠ .faulted) :
    correctColumns sl (c :: cs) done s =
      correctColumns sl cs (correctedPixel (Sparse.get 0 sl.raw c) d g :: done) s2 := by
  simp only [correctColumns, hn, hd, hg, if_neg h1, if_neg h2]
  rfl

theorem correctColumns_fatalDark {s1 : State} (hd : readWord .dark c s = (s1, none)) :
    correctColumns sl (c :: cs) done s = (s1, none) := by
  simp only [correctColumns, hn, hd]
  rfl

theorem correctColumns_fatalGain {s1 s2 : State} {d : Nat} (hd : readWord .dark c s = (s1, some d))
    (h1 : s1.ict.state ≠ .faulted) (hg : readWord .gain c s1 = (s2, none)) :
    correctColumns sl (c :: cs) done s = (s2, none) := by
  simp only [correctColumns, hn, hd, hg, if_neg h1]
  rfl

end

/-- Columns with right words are corrected one after another, and nothing else changes. -/
theorem correctColumns_good (sl : Slot) (as bs : List Nat) (done : List Pixel) {s : State} (hs : s.ict.state ≠ .faulted)
    (hg : ∀ c ∈ as, s.goodAt c) :
    correctColumns sl (as ++ bs) done s = correctColumns sl bs ((as.map (s.pixelAt sl)).reverse ++ done) s := by
  induction as generalizing done with
  | nil => rfl
  | cons c as ih =>
    have hrest := ih (s.pixelAt sl c :: done) fun c hc => hg c (List.mem_cons_of_mem _ hc)
    rw [List.map_cons, List.reverse_cons, List.append_assoc, List.singleton_append, ← hrest, List.cons_append]
    obtain ⟨hdark, hgain⟩ := hg c List.mem_cons_self
    by_cases hn : sl.isNoData c = true
    · rw [correctColumns_noData _ _ hn, State.pixelAt, if_pos hn]
    · rw [correctColumns_read _ _ (Bool.eq_false_iff.mpr hn) (readWord_good hdark) hs (readWord_good hgain) hs,
        State.pixelAt, if_neg hn]

/-- A line all of whose words are right. -/
theorem correctColumns_all (sl : Slot) (cs : List Nat) {s : State} (hs : s.ict.state ≠ .faulted)
    (hg : ∀ c ∈ cs, s.goodAt c) : correctColumns sl cs [] s = (s, some (cs.map (s.pixelAt sl))) := by
  have := correctColumns_good sl cs [] [] hs hg
  rwa [List.append_nil, correctColumns, List.append_nil, List.reverse_reverse] at this

/-- The pixels of a whole line are those that R37 and R38 state. -/
theorem State.corrects_map (s : State) (sl : Slot) : s.corrects sl ((List.range s.las.width).map (s.pixelAt sl)) := by
  refine ⟨by simp, fun c hc => ?_⟩
  have hat : ((List.range s.las.width).map (s.pixelAt sl))[c]? = some (s.pixelAt sl c) := by
    simp [hc]
  simp only [hat, ← Slot.isNoData_iff, Option.some.injEq, State.pixelAt]
  refine ⟨fun hn => if_pos hn, fun hn hg => ?_, fun hn hg hr => ?_, fun hn hg hr => ?_⟩ <;> rw [if_neg hn, correctedPixel]
  · exact if_pos hg
  · exact (if_neg (by omega)).trans (if_pos hr)
  · exact (if_neg (by omega)).trans (if_neg hr)

/-! ## A line with one wrong word (R44, R45) -/

@[simp] theorem State.repaired_ffc (s : State) (id : TableId) (c : Nat) :
    (s.repaired id c).ffc = s.ffc.write id c (s.ffc.word id c).val := State.withOccurrence_ffc ..

theorem State.repaired_state (s : State) (id : TableId) (c : Nat) : (s.repaired id c).ict.state = s.ict.state :=
  State.withOccurrence_state ..

section
variable {s : State} {sl : Slot} {id : TableId} {k : Nat} (hs : s.ict.state ≠ .faulted)
  (hwf : Sparse.wf id.defaultWord (s.ffc.table id).words = true)

include hwf in
/-- Repaired, a word has the value the check corrects to, and every other word is as it was. -/
theorem State.repaired_word (t : TableId) (c : Nat) :
    ((s.repaired id k).ffc.word t c).val = (s.ffc.word t c).val ∧
      ((s.ffc.word t c).health = .good ∨ t = id ∧ c = k → ((s.repaired id k).ffc.word t c).health = .good) := by
  rw [State.repaired_ffc, Ffc.word_write hwf]
  split
  · next h => exact ⟨by rw [h.1, h.2], fun _ => rfl⟩
  · next h => exact ⟨rfl, fun hg => hg.resolve_right h⟩

include hwf in
theorem State.repaired_pixelAt : (s.repaired id k).pixelAt sl = s.pixelAt sl := by
  funext c
  simp only [State.pixelAt, (State.repaired_word (s := s) (k := k) hwf _ c).1]

include hs

/-- The column of a word with one wrong bit: the word is repaired, and the pixel formed from the corrected value. -/
theorem correctColumns_single (cs : List Nat) (done : List Pixel) (hn : sl.isNoData k = false)
    (hwf : Sparse.wf id.defaultWord (s.ffc.table id).words = true) (hk : (s.ffc.word id k).health = .single)
    (ho : ∀ t, t ≠ id → (s.ffc.word t k).health = .good) (ht : s.takes .memoryCorrected) :
    correctColumns sl (k :: cs) done s = correctColumns sl cs (s.pixelAt sl k :: done) (s.repaired id k) := by
  have hr : (s.repaired id k).ict.state ≠ .faulted := by rwa [State.repaired_state]
  have hpixel : s.pixelAt sl k =
      correctedPixel (Sparse.get 0 sl.raw k) (s.ffc.word .dark k).val (s.ffc.word .gain k).val := by
    rw [State.pixelAt, hn]
    rfl
  rw [hpixel]
  cases id with
  | dark =>
    obtain ⟨hval, hgood⟩ := State.repaired_word (s := s) (k := k) hwf .gain k
    have hg := readWord_good (hgood (.inl (ho .gain (by decide))))
    rw [hval] at hg
    exact correctColumns_read cs done hn (readWord_single hk ht) hr hg hr
  | gain =>
    exact correctColumns_read cs done hn (readWord_good (ho .dark (by decide))) hs (readWord_single hk ht) hr

/-- The column of an uncorrectable word: its table is struck, and MEMORY_FATAL ends the line. -/
theorem correctColumns_double (cs : List Nat) (done : List Pixel) (hn : sl.isNoData k = false)
    (hk : (s.ffc.word id k).health = .double) (ho : ∀ t, t ≠ id → (s.ffc.word t k).health = .good) :
    correctColumns sl (k :: cs) done s = (memoryFatal { s with ffc := s.ffc.struck id k }, none) := by
  cases id with
  | dark => exact correctColumns_fatalDark cs done hn (readWord_double hk)
  | gain => exact correctColumns_fatalGain cs done hn (readWord_good (ho .dark (by decide))) hs (readWord_double hk)

variable {health : Health} (hw : s.oneWordWrong sl id k health)
include hw

omit hs in
/-- The columns of a line around the wrong word. -/
theorem oneWordWrong_split :
    ∃ as bs, List.range s.las.width = as ++ k :: bs ∧ (∀ c ∈ as, s.goodAt c) ∧ (∀ c ∈ bs, c < s.las.width ∧ c ≠ k) ∧
      sl.isNoData k = false ∧ (∀ t, t ≠ id → (s.ffc.word t k).health = .good) := by
  obtain ⟨hlt, hdata, -, hgood⟩ := hw
  obtain ⟨as, bs, hsplit⟩ := List.append_of_mem (List.mem_range.mpr hlt)
  have hnd : (as ++ k :: bs).Nodup := hsplit ▸ List.nodup_range
  have hmem (c : Nat) (h : c ∈ as ++ k :: bs) : c < s.las.width := List.mem_range.mp (hsplit ▸ h)
  obtain ⟨-, hkb, hne⟩ := List.nodup_append.mp hnd
  refine ⟨as, bs, hsplit, fun c hc => ?_, fun c hc => ⟨hmem c (by simp [hc]), ?_⟩, ?_, fun t ht => hgood t k hlt (.inl ht)⟩
  · have hck : c ≠ k := hne c hc k List.mem_cons_self
    exact ⟨hgood .dark c (hmem c (by simp [hc])) (.inr hck), hgood .gain c (hmem c (by simp [hc])) (.inr hck)⟩
  · rintro rfl
    exact (List.nodup_cons.mp hkb).1 hc
  · rw [Bool.eq_false_iff, Ne, Slot.isNoData_iff]
    exact fun ⟨lo, hi, hm, h⟩ => hdata lo hi hm h

theorem correctColumns_oneSingle (hh : health = .single)
    (hwf : Sparse.wf id.defaultWord (s.ffc.table id).words = true) (ht : s.takes .memoryCorrected) :
    correctColumns sl (List.range s.las.width) [] s =
      (s.repaired id k, some ((List.range s.las.width).map (s.pixelAt sl))) := by
  obtain ⟨as, bs, hsplit, has, hbs, hn, ho⟩ := oneWordWrong_split hw
  obtain ⟨-, -, hk, hgood⟩ := hw
  have hword := State.repaired_word (s := s) (k := k) hwf
  have hlater : ∀ c ∈ bs, (s.repaired id k).goodAt c := fun c hc =>
    ⟨(hword .dark c).2 (.inl (hgood .dark c (hbs c hc).1 (.inr (hbs c hc).2))),
      (hword .gain c).2 (.inl (hgood .gain c (hbs c hc).1 (.inr (hbs c hc).2)))⟩
  have hend := correctColumns_good sl bs [] (s.pixelAt sl k :: (as.map (s.pixelAt sl)).reverse)
    (s := s.repaired id k) (by rwa [State.repaired_state]) hlater
  rw [List.append_nil, State.repaired_pixelAt hwf] at hend
  rw [hsplit, correctColumns_good sl as (k :: bs) [] hs has, List.append_nil,
    correctColumns_single hs bs _ hn hwf (hk.trans hh) ho ht, hend, correctColumns]
  simp

theorem correctColumns_oneDouble (hh : health = .double) :
    correctColumns sl (List.range s.las.width) [] s = (memoryFatal { s with ffc := s.ffc.struck id k }, none) := by
  obtain ⟨as, bs, hsplit, has, -, hn, ho⟩ := oneWordWrong_split hw
  rw [hsplit, correctColumns_good sl as (k :: bs) [] hs has,
    correctColumns_double hs bs _ hn (hw.2.2.1.trans hh) ho]

end

theorem correctLine_formed {s t : State} {i : Nat} {pixels : List Pixel}
    (h : correctColumns (s.las.slot i) (List.range s.las.width) [] s = (t, some pixels)) :
    correctLine i s = t.setSlot i { t.las.slot i with pixels := pixels } := by
  simp only [correctLine, h]

theorem correctLine_abandoned {s t : State} {i : Nat}
    (h : correctColumns (s.las.slot i) (List.range s.las.width) [] s = (t, none)) : correctLine i s = t := by
  simp only [correctLine, h]

end Sys2Proof.Machine
end

section
/-! PROOFS. The statement on the handover of a line. -/

namespace Sys2Proof.SensorHeads

open Sys2Proof.Machine

/-- Settles O36: the COMPLETE slot that leads is handed over, and its columns are corrected with all words right, one repaired, or one
uncorrectable, which is MEMORY_FATAL. -/
theorem lineHandover : Obligations.LineHandover := by
  refine ⟨fun s i hrest hs hp hi h8 hst hk hfirst => ?_, fun s hrest hno => ?_⟩
  · intro sl taken
    have hslot : handoverSlot s = some i :=
      (handoverSlot_running hp hs).trans
        (Las.firstBy_of_leads ⟨⟨hi, hst, hk⟩, fun j hj => hfirst j hj.1 hj.2.1 hj.2.2⟩)
    have hline : handover s = correctLine i (s.handedOver i) := handover_run hslot hk
    have hnf : (s.handedOver i).ict.state ≠ .faulted := by
      rw [show (s.handedOver i).ict.state = .running from hs]
      decide
    refine ⟨fun hgood => ?_, fun id k hwf hw ht => ?_, fun id k hw hn => ?_⟩
    · refine ⟨_, ?_, s.corrects_map sl⟩
      have hcols := correctColumns_all sl (List.range s.las.width) hnf fun c hc => hgood c (List.mem_range.mp hc)
      have hformed := hline.trans (correctLine_formed (s := s.handedOver i) (i := i) hcols)
      exact inService_of_unposted (t := taken _) _ hrest hformed rfl rfl (State.nothingDue_of_running hs)
    · refine ⟨_, _, Ffc.corrected_write (wf_table_of_memoryWf hwf id) k, s.corrects_map sl, ?_⟩
      have hcols := correctColumns_oneSingle (s := s.handedOver i) hnf hw rfl (wf_table_of_memoryWf hwf id) ht
      have hcorrected := hline.trans (correctLine_formed (s := s.handedOver i) (i := i) hcols)
      rw [State.repaired, State.withOccurrence_las, State.withOccurrence_setSlot] at hcorrected
      exact inService_of_posted _ hrest hcorrected (State.withOccurrence_lnk ..)
        (State.nothingDue_of_running ((State.withOccurrence_state ..).trans hs))
    · have hcols := correctColumns_oneDouble (s := s.handedOver i) hnf hw rfl
      exact inService_of_posted _ hrest (hline.trans (correctLine_abandoned (s := s.handedOver i) (i := i) hcols)) ((lnk_stable hn).memoryFatal _ rfl)
        (State.nothingDue_of_ended (.inr (memoryFatal_shut _).1))
  · exact inService_of_unposted _ hrest (handover_none (handoverSlot_none hno)) rfl rfl hrest.2.1

end Sys2Proof.SensorHeads
end

section
/-! PROOFS. A CALIBRATION line: the sums and the missing heads it gives, the columns of the heads, and how a completion ends. -/

namespace Sys2Proof.Machine

/-! ## The columns of the heads (R20) -/

/-- The base column of the next head. -/
theorem Las.base_succ (l : Las) (h : Nat) :
    l.base (h + 1) = l.base h + if (l.head h).settings.enabled then (l.head h).settings.count else 0 := by
  have hmap : l.headSettings[h]? = (l.heads[h]?).map (·.settings) := by simp [Las.headSettings]
  unfold Las.base enabledWidth
  by_cases hl : h < l.heads.length
  · have hs : l.headSettings[h]? = some (l.head h).settings := by simp [hmap, Las.head, List.getD, hl]
    rw [List.take_add_one, hs]
    cases he : (l.head h).settings.enabled <;> simp [he]
  · have hoff : (l.head h).settings.enabled = false := Bool.eq_false_iff.mpr fun he => hl (Las.lt_of_enabled he)
    rw [List.take_add_one, hmap, List.getElem?_eq_none (Nat.le_of_not_lt hl)]
    simp [hoff]

/-- The columns of an enabled head lie below those of the heads above it. -/
theorem Las.base_add_count_le {l : Las} {h k : Nat} (hk : h < k) (he : (l.head h).settings.enabled = true) :
    l.base h + (l.head h).settings.count ≤ l.base k := by
  induction k with
  | zero => omega
  | succ k ih =>
    rcases Nat.lt_succ_iff_lt_or_eq.mp hk with hlt | rfl
    · have := ih hlt
      rw [l.base_succ k]
      omega
    · rw [l.base_succ, if_pos he]

theorem Las.mem_columnsOf {l : Las} {h c : Nat} :
    c ∈ l.columnsOf h ↔ l.base h ≤ c ∧ c < l.base h + (l.head h).settings.count := by
  simp only [Las.columnsOf, List.mem_map, List.mem_range]
  exact ⟨fun ⟨k, hk, e⟩ => by omega, fun ⟨h1, h2⟩ => ⟨c - l.base h, by omega, by omega⟩⟩

theorem Las.mem_enabledHeads {l : Las} {h : Nat} : h ∈ l.enabledHeads ↔ h < 4 ∧ (l.head h).settings.enabled = true := by
  simp [Las.enabledHeads]

/-- No column is listed twice for some enabled heads. -/
theorem Las.nodup_columns (l : Las) (p : Nat → Bool) : ((l.enabledHeads.filter p).flatMap l.columnsOf).Nodup := by
  refine List.nodup_flatMap.mpr ⟨fun h _ => ?_, ?_⟩
  · exact List.nodup_range.map fun a b e => Nat.add_left_cancel e
  · have hlt : (l.enabledHeads.filter p).Pairwise (· < ·) :=
      ((List.pairwise_lt_range (n := 4)).filter _).filter _
    refine hlt.imp_of_mem fun {h k} hh _ hk c hch hck => ?_
    have he := (Las.mem_enabledHeads.mp (List.mem_of_mem_filter hh)).2
    have := Las.base_add_count_le hk he
    rw [Las.mem_columnsOf] at hch hck
    omega

/-! ## The sums and the missing heads (R48) -/

/-- Columns added to the sums: each listed one by its raw level, and no other. -/
theorem get_addColumns (sl : Slot) {cols : List Nat} (hnd : cols.Nodup) {m : Sparse Nat} (hw : Sparse.wf 0 m = true) (c : Nat) :
    Sparse.get 0 (addColumns sl cols m) c = Sparse.get 0 m c + if c ∈ cols then Sparse.get 0 sl.raw c else 0 := by
  induction cols generalizing m with
  | nil => simp [addColumns]
  | cons k cols ih =>
    obtain ⟨hk, hnd⟩ := List.nodup_cons.mp hnd
    have hrest := ih hnd (Sparse.wf_set 0 m k (Sparse.get 0 m k + Sparse.get 0 sl.raw k) hw)
    refine hrest.trans ?_
    by_cases hc : c = k
    · subst hc
      rw [Sparse.get_set_same 0 m c _ 0 hw, if_neg hk, if_pos List.mem_cons_self]
      rfl
    · rw [Sparse.get_set_other 0 m k c _ 0 hw hc]
      simp [hc]

/-- Heads added one after another are their columns added. -/
theorem foldl_addColumns (sl : Slot) (l : Las) (heads : List Nat) (m : Sparse Nat) :
    heads.foldl (fun m h => addColumns sl (l.columnsOf h) m) m = addColumns sl (heads.flatMap l.columnsOf) m := by
  rw [addColumns, List.foldl_flatMap]
  rfl

theorem mem_insertRising (n m : Nat) (l : List Nat) : n ∈ insertRising m l ↔ n = m ∨ n ∈ l := by
  induction l with
  | nil => simp [insertRising]
  | cons k l ih =>
    simp only [insertRising]
    split
    · simp
    · split
      · next h => subst h; simp
      · simp only [List.mem_cons, ih]
        tauto

theorem mem_foldl_insertRising (n : Nat) (new l : List Nat) :
    n ∈ new.foldl (fun m h => insertRising h m) l ↔ n ∈ l ∨ n ∈ new := by
  induction new generalizing l with
  | nil => simp
  | cons k new ih =>
    simp only [List.foldl_cons, ih, mem_insertRising, List.mem_cons]
    tauto

/-- The heads whose columns of a line are all there. -/
def Las.wholeHeads (l : Las) (sl : Slot) : List Nat := l.enabledHeads.filter (fun h => (sl.noData.getD h none).isNone)

/-- The sums after a line. -/
def State.sumsAfter (s : State) (sl : Slot) : Sparse Nat :=
  addColumns sl ((s.las.wholeHeads sl).flatMap s.las.columnsOf) s.ffc.sums

/-- The missing heads after a line. -/
def State.missingAfter (s : State) (sl : Slot) (missing : List Nat) : List Nat :=
  (s.las.enabledHeads.filter (fun h => (sl.noData.getD h none).isSome)).foldl (fun m h => insertRising h m) missing

theorem State.mem_missingAfter (s : State) (sl : Slot) (missing : List Nat) (h : Nat) :
    h ∈ s.missingAfter sl missing ↔
      h ∈ missing ∨ (h < 4 ∧ (s.las.head h).settings.enabled = true ∧ sl.noData.getD h none ≠ none) := by
  simp only [State.missingAfter, mem_foldl_insertRising, List.mem_filter, Las.mem_enabledHeads, Option.isSome_iff_ne_none,
    and_assoc]

theorem Las.mem_wholeHeads {l : Las} {sl : Slot} {h : Nat} :
    h ∈ l.wholeHeads sl ↔ h < 4 ∧ (l.head h).settings.enabled = true ∧ sl.noData.getD h none = none := by
  simp only [Las.wholeHeads, List.mem_filter, Las.mem_enabledHeads, Option.isNone_iff_eq_none, and_assoc]

/-- A column of a whole head, and no other, has its raw level in the sums. -/
theorem State.get_sumsAfter {s : State} (hw : Sparse.wf 0 s.ffc.sums = true) (sl : Slot) (c : Nat) :
    Sparse.get 0 (s.sumsAfter sl) c =
      Sparse.get 0 s.ffc.sums c +
        if c ∈ (s.las.wholeHeads sl).flatMap s.las.columnsOf then Sparse.get 0 sl.raw c else 0 :=
  get_addColumns sl (s.las.nodup_columns _) hw c

/-! ## The end of a CALIBRATION line (R31, R48) -/

/-- The part once a CALIBRATION line has been taken: its slot FREE, pending priorities in force. -/
def State.calibrationTaken (s : State) (i : Nat) (sums : Sparse Nat) (record : CalRecord) : State :=
  { s with
    las := { s.las with slots := s.las.slots.set i Slot.blank }
    rpq := s.rpq.applyPending
    ffc := { s.ffc with sums := sums, record := some record } }

theorem takeCalibrationLine_taken {s : State} {i : Nat} {r : CalRecord} (hp : s.las.processing = none)
    (hrec : s.ffc.record = some r) (hk : (s.las.slot i).kind = .calibration) :
    takeCalibrationLine i (s.handedOver i) =
      s.calibrationTaken i (s.sumsAfter (s.las.slot i))
        { r with taken := r.taken + 1, missing := s.missingAfter (s.las.slot i) r.missing } := by
  let u : State := { s.handedOver i with
    ffc := { s.ffc with
      sums := s.sumsAfter (s.las.slot i)
      record := some { r with taken := r.taken + 1, missing := s.missingAfter (s.las.slot i) r.missing } } }
  have hu : takeCalibrationLine i (s.handedOver i) = u.endLine := by
    have hsums := foldl_addColumns (s.las.slot i) s.las (s.las.wholeHeads (s.las.slot i)) s.ffc.sums
    unfold takeCalibrationLine
    refine congrArg State.endLine ?_
    change ({ s.handedOver i with ffc := { s.ffc with
      sums := (s.las.wholeHeads (s.las.slot i)).foldl (fun m h => addColumns (s.las.slot i) (s.las.columnsOf h) m) s.ffc.sums
      record := s.ffc.record.map _ } } : State) = u
    rw [hsums, hrec]
    rfl
  have hlast : ((u.las.slot i).kind == .run) = false := by
    rw [show (u.las.slot i).kind = .calibration from hk]
    rfl
  have hend : u.endLine = u.releaseLine := by
    rw [State.endLine, show u.las.processing = some { slot := i, lnc := false, spd := false, sti := false } from rfl]
    simp only [hlast, Bool.false_and]
    rfl
  have hlas : ({ s.las with slots := s.las.slots.set i Slot.blank, processing := none } : Las) =
      { s.las with slots := s.las.slots.set i Slot.blank } := by rw [← hp]
  rw [hu, hend]
  unfold State.calibrationTaken
  rw [← hlas]
  rfl

/-- Another slot of the calibration is in a state. -/
def State.otherSlot (s : State) (i : Nat) (st : SlotState) : Prop :=
  ∃ j < 8, j ≠ i ∧ (s.las.slot j).state = st ∧ (s.las.slot j).kind = .calibration

/-- With slot `i` FREE no slot of the calibration is in a state just when no other one is. -/
theorem otherSlot_iff {s : State} {i : Nat} {st : SlotState} (hi : i < 8) (h8 : s.las.slots.length = 8) (hst : st ≠ .free) :
    (∀ k, ((s.setSlot i Slot.blank).las.slot k).state = st →
      ((s.setSlot i Slot.blank).las.slot k).kind ≠ .calibration) ↔ ¬s.otherSlot i st := by
  have hat : (s.setSlot i Slot.blank).las.slot i = Slot.blank := Las.slot_setSlot_same s i _ (by omega)
  have hoff (k : Nat) (hk : k ≠ i) : (s.setSlot i Slot.blank).las.slot k = s.las.slot k := Las.slot_setSlot_other s i k _ hk
  constructor
  · rintro h ⟨j, -, hj, hs, hk⟩
    exact h j (by rw [hoff j hj, hs]) (by rw [hoff j hj, hk])
  · intro h k hs hk
    by_cases hki : k = i
    · rw [hki, hat] at hs
      exact hst hs.symm
    · rw [hoff k hki] at hs hk
      refine h ⟨k, ?_, hki, hs, hk⟩
      by_contra hge
      have hb : s.las.slot k = Slot.blank := by
        simp [Las.slot, List.getD, List.getElem?_eq_none (show s.las.slots.length ≤ k by omega)]
      rw [hb] at hs
      exact hst hs.symm

/-- After a line has been taken the calibration is due when R49's conditions hold of the other slots. -/
theorem calibrationDue_taken {s : State} {i : Nat} (record : CalRecord) (sums : Sparse Nat) (hs : s.ict.state = .calibrating)
    (hp : s.las.processing = none) (hi : i < 8) (h8 : s.las.slots.length = 8) :
    calibrationDue record (s.calibrationTaken i sums record) = true ↔
      s.ffc.active = true ∧ s.enc.calRemaining = 0 ∧ ¬s.otherSlot i .complete ∧
        (¬s.otherSlot i .assembling ∨ record.closeOut = .expired) := by
  rw [calibrationDue_iff, ← otherSlot_iff hi h8 (by decide), ← otherSlot_iff hi h8 (by decide)]
  change ((s.ffc.active = true ∧ s.ict.state = .calibrating ∧ s.enc.calRemaining = 0 ∧ s.las.processing = none) ∧ _) ↔ _
  simp only [hs, hp, true_and, and_true, and_assoc]
  rfl

/-! ## How a completion ends (R53, R54, R176) -/

/-- Outside RUNNING a post leaves the inspection state alone, or brings FAULTED. -/
theorem state_spared {st : Inspection} (h : st ≠ .running) : Spared fun s => s.ict.state = st ∨ s.ict.state = .faulted where
  take _ _ _ hs := hs
  count _ _ hs := hs
  stop s _ hr hs := by
    rcases hs with hs | hs
    · exact absurd (hs.symm.trans hr) h
    · exact absurd (hs.symm.trans hr) (by decide)
  words _ _ _ _ hs := hs
  free _ _ _ hs := hs
  shut _ hs := .inr hs.1

/-- A change of inspection state but to RUNNING ends in that state or in FAULTED. -/
theorem enterState_ends {st : Inspection} (h : st ≠ .running) (s : State) :
    (enterState st s).ict.state = st ∨ (enterState st s).ict.state = .faulted :=
  (state_spared h).post _ _ _ (.inl rfl)

theorem unlessFaulted_enterState_ends {st : Inspection} (h : st ≠ .running) (s : State) :
    (s.unlessFaulted (enterState st)).ict.state = st ∨ (s.unlessFaulted (enterState st)).ict.state = .faulted := by
  unfold State.unlessFaulted
  split
  · next hf => exact .inr hf
  · exact enterState_ends h s

theorem readWord_none {id : TableId} {c : Nat} {s t : State} (h : readWord id c s = (t, none)) : t.ict.state = .faulted := by
  cases hw : (s.ffc.word id c).health with
  | good => simp [readWord, hw] at h
  | single => simp [readWord, hw] at h
  | double =>
    rw [readWord_double hw] at h
    rw [← (Prod.mk.inj h).1]
    exact (memoryFatal_shut _).1

/-- BRIGHT entries that are not formed leave the part FAULTED. -/
theorem formBright_none {lines target : Nat} {cols : List Nat} {done : List Formed} {s t : State}
    (h : formBright lines target cols done s = (t, none)) : t.ict.state = .faulted := by
  induction cols generalizing done s with
  | nil => simp [formBright] at h
  | cons c cols ih =>
    simp only [formBright] at h
    split at h
    · next hr =>
      rw [← (Prod.mk.inj h).1]
      exact readWord_none hr
    · split at h
      · next hf =>
        rw [← (Prod.mk.inj h).1]
        exact hf
      · exact ih h

/-- Reading a word leaves a link without a request in progress alone. -/
theorem readWord_lnk {l : Lnk} (hl : l.inProgress = none) {id : TableId} {c : Nat} {s t : State} {v : Option Nat}
    (h : readWord id c s = (t, v)) (hs : s.lnk = l) : t.lnk = l := by
  have ht : t = (readWord id c s).1 := by rw [h]
  rw [ht, readWord]
  split
  · exact hs
  · exact (lnk_stable hl).occur _ _ _ _ hs
  · exact (lnk_stable hl).memoryFatal _ hs

theorem formBright_lnk {l : Lnk} (hl : l.inProgress = none) {lines target : Nat} {cols : List Nat} {done : List Formed}
    {s t : State} {formed : Option (List Formed)} (h : formBright lines target cols done s = (t, formed)) (hs : s.lnk = l) :
    t.lnk = l := by
  induction cols generalizing done s with
  | nil => rw [← (Prod.mk.inj h).1, hs]
  | cons c cols ih =>
    simp only [formBright] at h
    split at h
    · next hr =>
      rw [← (Prod.mk.inj h).1]
      exact readWord_lnk hl hr hs
    · next hr =>
      split at h
      · rw [← (Prod.mk.inj h).1]
        exact readWord_lnk hl hr hs
      · exact ih h (readWord_lnk hl hr hs)

section
variable (r : CalRecord) {l : Lnk} (hl : l.inProgress = none)

theorem finishCalibration_ends (formed : List Formed) (s : State) :
    (finishCalibration r formed s).ict.state = .stopped ∨ (finishCalibration r formed s).ict.state = .faulted := by
  unfold finishCalibration
  exact unlessFaulted_enterState_ends (by decide) _

include hl in
theorem finishCalibration_lnk (formed : List Formed) {s : State} (hs : s.lnk = l) :
    (finishCalibration r formed s).lnk = l := by
  simp only [finishCalibration]
  exact unlessFaulted_keeps (P := fun s => s.lnk = l) _ _ ((lnk_stable hl).post _ _ _ hs)
    fun h => (lnk_stable hl).enterState _ _ h

/-- A completion ends in STOPPED, or in FAULTED. -/
theorem completeCalibration_ends (s : State) :
    (completeCalibration r s).ict.state = .stopped ∨ (completeCalibration r s).ict.state = .faulted := by
  simp only [completeCalibration]
  split
  · exact finishCalibration_ends _ _ _
  · split
    · exact finishCalibration_ends _ _ _
    · next h => exact .inr (formBright_none h)

include hl in
theorem completeCalibration_lnk {s : State} (hs : s.lnk = l) : (completeCalibration r s).lnk = l := by
  simp only [completeCalibration]
  split
  · exact finishCalibration_lnk _ hl _ hs
  · split
    · next h => exact finishCalibration_lnk _ hl _ (formBright_lnk hl h hs)
    · next h => exact formBright_lnk hl h hs

end

/-- A calibration that is due completes, and no STOP procedure follows. -/
theorem finishProcedures_due {s : State} {r : CalRecord} (hrec : s.ffc.record = some r) (h : calibrationDue r s = true) :
    finishProcedures s = completeCalibration r s := by
  have hs : (completeCalibration r s).ict.state ≠ .stopping := by
    rcases completeCalibration_ends r s with h | h <;> rw [h] <;> decide
  simp only [finishProcedures, settleCalibration, hrec, h, if_true, runStop, hs, false_and, if_false]

end Sys2Proof.Machine
end

section
/-! PROOFS. The statement on a CALIBRATION line. -/

namespace Sys2Proof.SensorHeads

open Sys2Proof.Machine

/-- Settles O37: the slot that leads by its claim is taken into the sums, and R49's conditions on the other slots decide whether the
event ends in the completion. -/
theorem calibrationLineTaken : Obligations.CalibrationLineTaken := by
  intro s i r hrest hs hrec hp hi h8 hst hk hfirst hwf sl takes others last
  have hslot : handoverSlot s = some i :=
    (handoverSlot_calibrating hp hs).trans
      (Las.firstBy_of_leads ⟨⟨hi, hst, hk⟩, fun j hj => hfirst j hj.1 hj.2.1 hj.2.2⟩)
  have hline := (handover_calibration hslot hk).trans (takeCalibrationLine_taken hp hrec hk)
  have hcolumn (c : Nat) := State.get_sumsAfter hwf sl c
  refine ⟨s.sumsAfter sl, s.missingAfter sl r.missing, ?_, s.mem_missingAfter sl r.missing, fun h k ht hc => ?_, fun c hc => ?_⟩
  · intro record t
    have hdue : calibrationDue record t = true ↔ last := calibrationDue_taken record _ hs hp hi h8
    refine ⟨fun hn => ?_, fun hl hlnk => ?_⟩
    · have hnothing : t.nothingDue :=
        State.nothingDue_of_calibrating hs fun q hq => by
          obtain rfl := Option.some.inj hq
          exact Bool.eq_false_iff.mpr (mt hdue.mp hn)
      refine (inService_of_posted _ hrest hline rfl hnothing).trans ?_
      exact congrArg _ (State.sends_of_allSent t hrest.2.2.2)
    · exact inService_of_finished _ hrest hline (finishProcedures_due rfl (hdue.mpr hl))
        (completeCalibration_lnk record hlnk rfl) (State.nothingDue_of_ended (completeCalibration_ends record t))
  · rw [hcolumn, if_pos]
    exact List.mem_flatMap.mpr ⟨h, Las.mem_wholeHeads.mpr ht, Las.mem_columnsOf.mpr ⟨by omega, by omega⟩⟩
  · rw [hcolumn, if_neg, Nat.add_zero]
    intro hm
    obtain ⟨h, hh, hc'⟩ := List.mem_flatMap.mp hm
    exact hc h (Las.mem_wholeHeads.mp hh) (Las.mem_columnsOf.mp hc')

end Sys2Proof.SensorHeads
end

section
/-! PROOFS. What the track table's own work leaves alone: the storing of rows, the taking of findings, the closing of tracks and the
end of a line for a track. -/

namespace Sys2Proof.Machine

/-- A property of the part outside the track table, the clip store and the lanes, which posts keep. -/
structure Outside (P : State → Prop) : Prop where
  tracks : ∀ s trk cls lnc, P s → P { s with trk := trk, cls := cls, lnc := lnc }
  post : ∀ r c s, P s → P (post r c s)
  occur : ∀ src d l s, P s → P (occur src d l s)
  read : ∀ id s, P s → P (readRecord id s)

theorem Stable.outside {P : State → Prop} (hP : Stable P)
    (ht : ∀ s trk cls lnc, P s → P { s with trk := trk, cls := cls, lnc := lnc }) : Outside P :=
  ⟨ht, hP.post, hP.occur, hP.readRecord⟩

theorem Spared.outside {P : State → Prop} (hP : Spared P)
    (ht : ∀ s trk cls lnc, P s → P { s with trk := trk, cls := cls, lnc := lnc }) : Outside P :=
  ⟨ht, hP.post, hP.occur, hP.readRecord⟩

namespace Outside

variable {P : State → Prop} (hP : Outside P)

include hP

theorem setTrack (id : Nat) (t : Track) (s : State) (h : P s) : P (s.setTrack id t) := hP.tracks s _ _ _ h

theorem freeTrack (id : Nat) (s : State) (h : P s) : P (s.freeTrack id) := hP.tracks s _ _ _ h

theorem countSpot (i n : Nat) (s : State) (h : P s) : P (countSpot i n s) := by
  simp only [Machine.countSpot]
  split
  · exact hP.tracks s _ _ _ h
  · exact h

theorem readOpen (s : State) (id : Nat) (h : P s) : P (readOpen s id) := by
  refine unlessFaulted_keeps _ s h fun h => ?_
  split
  · exact hP.read id s h
  · exact h

theorem placeRow (id : Nat) (row : List (Option Nat)) (s : State) (h : P s) : P (placeRow id row s) := by
  simp only [Machine.placeRow]
  split
  · exact hP.tracks s _ _ _ h
  · split
    · exact hP.tracks s _ _ _ h
    · split <;> exact hP.tracks s _ _ _ h

theorem storeRow (sl : Slot) (id : Nat) (s : State) (h : P s) : P (storeRow sl id s) := by
  simp only [Machine.storeRow]
  split
  · split
    · exact h
    · refine hP.placeRow _ _ _ ?_
      split
      · exact hP.setTrack _ _ _ h
      · exact h
  · exact h

theorem failAllocation (sl : Slot) (f : Finding) (s : State) (h : P s) : P (failAllocation sl f s) := by
  unfold Machine.failAllocation
  refine unlessFaulted_keeps _ _ (hP.occur _ _ _ _ (hP.tracks s _ _ _ h)) fun h => ?_
  split
  · exact h
  · split
    · exact hP.post _ _ _ (hP.countSpot _ _ _ (hP.tracks _ _ _ _ h))
    · exact h

theorem joinMatches (f : Finding) (first : Nat) (others : List Nat) (s : State) (h : P s) :
    P (joinMatches f first others s) :=
  hP.setTrack _ _ _ (foldl_keeps _ (fun s id h => hP.freeTrack id _ (hP.setTrack _ _ s h)) _ s h)

theorem takeFinding (sl : Slot) (s : State) (f : Finding) (h : P s) : P (takeFinding sl s f) := by
  refine unlessFaulted_keeps _ s h fun h => ?_
  split
  · simp only [openFor]
    split
    · exact hP.failAllocation sl f s h
    · exact hP.tracks s _ _ _ h
  · exact hP.joinMatches f _ _ s h

theorem closeTrack (id : Nat) (t : Track) (cause : CloseCause) (s : State) (h : P s) : P (closeTrack id t cause s) := by
  have settled (t : Track) (n : Nat) (s : State) (h : P s) : P (settleSlot id t cause n s) := by
    simp only [settleSlot]
    split
    · exact hP.setTrack _ _ s h
    · exact hP.freeTrack _ _ (hP.setTrack _ _ s h)
  simp only [Machine.closeTrack]
  split
  · exact hP.freeTrack _ _ (hP.setTrack _ _ s h)
  · refine hP.post _ _ _ (settled _ _ _ ?_)
    split
    · exact hP.countSpot _ _ _ (hP.tracks s _ _ _ h)
    · exact hP.tracks s _ _ _ h

theorem reportStreak (id : Nat) (t : Track) (s : State) (h : P s) : P (reportStreak id t s) := by
  simp only [Machine.reportStreak]
  split
  · exact hP.post _ _ _ (hP.setTrack _ _ s h)
  · split
    · exact hP.post _ _ _ (hP.setTrack _ _ s h)
    · exact hP.setTrack _ _ s h

theorem endTrack (sl : Slot) (s : State) (id : Nat) (h : P s) : P (endTrack sl s id) := by
  refine unlessFaulted_keeps _ _ (hP.readOpen s id h) fun h => ?_
  dsimp only
  split
  · split
    · exact hP.closeTrack _ _ _ _ h
    · exact hP.reportStreak _ _ _ h
  · exact h

end Outside

/-- The link and LAS stand as they did, or MEMORY_FATAL has been taken. -/
def undisturbed (las : Las) (lnk : Lnk) (s : State) : Prop := s.ict.state = .faulted ∨ s.las = las ∧ s.lnk = lnk

theorem undisturbed_spared (las : Las) (lnk : Lnk) : Spared (undisturbed las lnk) where
  take _ _ _ h := h
  count _ _ h := h
  stop s _ hr h := .inr (h.resolve_left fun hf => absurd (hf.symm.trans hr) (by decide))
  words _ _ _ _ h := h
  free _ _ _ h := h
  shut _ h := .inl h.1

theorem undisturbed_outside (las : Las) (lnk : Lnk) : Outside (undisturbed las lnk) :=
  (undisturbed_spared las lnk).outside fun _ _ _ _ h => h

/-- STOPPING with its cause, or MEMORY_FATAL has been taken. -/
def stoppingFor (cause : StopCause) (s : State) : Prop :=
  s.ict.state = .faulted ∨ s.ict.state = .stopping ∧ s.ict.lastStop = cause

theorem stoppingFor_outside (cause : StopCause) : Outside (stoppingFor cause) :=
  Spared.outside (P := stoppingFor cause)
    { take := fun _ _ _ h => h
      count := fun _ _ h => h
      stop := fun s _ hr h => by
        rcases h with h | h
        · exact absurd (h.symm.trans hr) (by decide)
        · exact absurd (h.1.symm.trans hr) (by decide)
      words := fun _ _ _ _ h => h
      free := fun _ _ _ h => h
      shut := fun _ h => .inl h.1 }
    fun _ _ _ _ h => h

/-- FAULTED is left by nothing that a track's end does. -/
theorem faulted_outside : Outside fun s => s.ict.state = .faulted := by
  have h : Spared fun s : State => s.ict.state = .faulted := by
    simpa only [or_self] using state_spared (st := .faulted) (by decide)
  exact h.outside fun _ _ _ _ h => h

/-! ## Records whose words are right (R126) -/

/-- A fold whose every step changes nothing. -/
theorem foldl_unchanged {α : Type} {f : State → α → State} {s : State} {l : List α} (h : ∀ a ∈ l, f s a = s) :
    l.foldl f s = s := by
  induction l with
  | nil => rfl
  | cons a l ih =>
    rw [List.foldl_cons, h a List.mem_cons_self]
    exact ih fun b hb => h b (List.mem_cons_of_mem _ hb)

theorem readRecord_right {s : State} {id : Nat} (h : (s.track id).wrongWords = []) : readRecord id s = s := by
  simp [readRecord, readRecordWith, h]

theorem readOpen_right {s : State} {id : Nat} (h : (s.track id).state = .open → (s.track id).wrongWords = []) :
    readOpen s id = s := by
  simp only [readOpen, State.unlessFaulted]
  split
  · rfl
  · split
    · next ho => exact readRecord_right (h ho)
    · rfl

/-- The records of the OPEN tracks can be read without a wrong word, and in FAULTED there is none. -/
def State.readable (s : State) : Prop :=
  s.shutIfFaulted ∧ ∀ id < 64, (s.track id).state = .open → (s.track id).wrongWords = []

theorem readable_spared : Spared State.readable where
  take _ _ _ h := h
  count _ _ h := h
  stop s c hr h := ⟨shutIfFaulted_spared.stop s c hr h.1, h.2⟩
  words s id l hw h := by
    refine ⟨shutIfFaulted_spared.words s id l hw h.1, fun j hj ho => ?_⟩
    rw [State.track_repair_state] at ho
    rw [State.track_setTrack]
    split
    · next he =>
      rw [he.1] at hj ho
      exact absurd (h.2 id hj ho) hw
    · exact h.2 j hj ho
  free s id hh h := by
    refine ⟨shutIfFaulted_spared.free s id hh h.1, fun j hj => ?_⟩
    rw [State.track_freeTrack]
    split
    · exact fun _ => rfl
    · exact h.2 j hj
  shut s h := ⟨fun _ => h.2, fun id _ ho => absurd ho (h.2 id)⟩

section
variable {s : State} (hs : s.ict.state ≠ .faulted) (h : s.readable)
include hs h

theorem State.readable.setTrack {id : Nat} {t : Track} (ht : id < 64 → t.state = .open → t.wrongWords = []) :
    (s.setTrack id t).readable := by
  refine ⟨fun hf => absurd hf hs, fun j hj ho => ?_⟩
  rw [State.track_setTrack] at ho ⊢
  split
  · next he =>
    rw [if_pos he] at ho
    exact ht (he.1 ▸ hj) ho
  · next he =>
    rw [if_neg he] at ho
    exact h.2 j hj ho

theorem State.readable.freeTrack (id : Nat) : (s.freeTrack id).readable := by
  refine ⟨fun hf => absurd hf hs, fun j hj => ?_⟩
  rw [State.track_freeTrack]
  split
  · exact fun _ => rfl
  · exact h.2 j hj

theorem State.readable.joinMatches (f : Finding) (first : Nat) (others : List Nat) :
    (joinMatches f first others s).readable := by
  have hmerged (survivor : Nat) (ids : List Nat) :
      (ids.foldl (mergeInto survivor) s).ict.state ≠ .faulted ∧ (ids.foldl (mergeInto survivor) s).readable :=
    foldl_keeps (P := fun u => u.ict.state ≠ .faulted ∧ u.readable) (mergeInto survivor)
      (fun u id hu => ⟨hu.1, State.readable.freeTrack
        (s := u.setTrack survivor ((u.track survivor).absorb (u.track id))) hu.1
        (State.readable.setTrack hu.1 hu.2 (hu.2.2 survivor)) id⟩) ids s ⟨hs, h⟩
  obtain ⟨hu, hr⟩ := hmerged (oldest s first others) ((first :: others).filter (· ≠ oldest s first others))
  refine State.readable.setTrack hu hr fun hid => ?_
  cases f <;> exact hr.2 _ hid

end

theorem readable_countSpot {s : State} (h : s.readable) (i n : Nat) : (countSpot i n s).readable := by
  simp only [countSpot]
  split <;> exact h

theorem readable_takeFinding (sl : Slot) (f : Finding) {s : State} (h : s.readable) : (takeFinding sl s f).readable := by
  simp only [takeFinding, State.unlessFaulted]
  split
  · exact h
  · next hs =>
    split
    · simp only [openFor]
      split
      · unfold failAllocation
        refine unlessFaulted_keeps _ _ (readable_spared.occur _ _ _ _ (show State.readable _ from h)) fun h => ?_
        split
        · exact h
        · split
          · refine readable_spared.post _ _ _ (readable_countSpot ?_ _ _)
            exact h
          · exact h
      · next id rest _ =>
        exact State.readable.setTrack (s := { s with trk := { s.trk with freeList := rest } }) hs h fun _ _ => rfl
    · exact h.joinMatches hs f _ _

/-- With right words in the OPEN tracks a finding is matched as it is taken. -/
theorem matchFinding_readable (sl : Slot) (f : Finding) {s : State} (h : s.readable) :
    matchFinding sl s f = takeFinding sl s f := by
  rw [matchFinding, foldl_unchanged fun id hid => readOpen_right (h.2 id (List.mem_range.mp hid))]

/-- The findings of a line matched one after another, with right words in the OPEN tracks. -/
theorem matchFindings_readable (sl : Slot) (fs : List Finding) {s : State} (h : s.readable) :
    fs.foldl (matchFinding sl) s = fs.foldl (takeFinding sl) s ∧ (fs.foldl (takeFinding sl) s).readable := by
  induction fs generalizing s with
  | nil => exact ⟨List.foldl_nil.trans List.foldl_nil.symm, h⟩
  | cons f fs ih =>
    rw [List.foldl_cons, List.foldl_cons, matchFinding_readable sl f h]
    exact ih (readable_takeFinding sl f h)

/-! ## Clip rows (R109 step 4) -/

theorem writeRow_state (id : Nat) (blocks : List Nat) (words : Nat) (row : List (Option Nat)) (s : State) (j : Nat) :
    ((writeRow id blocks words row s).track j).state = (s.track j).state :=
  State.track_setTrack_state { s with cls := s.cls.writeWords blocks (s.track id).clip.used row } id j _ rfl

theorem endClip_state (id : Nat) (flags : ClipFlags) (s : State) (j : Nat) :
    ((endClip id flags s).track j).state = (s.track j).state :=
  State.track_setTrack_state s id j _ rfl

theorem placeRow_state (id : Nat) (row : List (Option Nat)) (s : State) (j : Nat) :
    ((placeRow id row s).track j).state = (s.track j).state := by
  unfold placeRow
  dsimp only
  split
  · exact writeRow_state ..
  · split
    · exact endClip_state ..
    · split
      · exact endClip_state ..
      · exact writeRow_state ..

/-- The storing of a row leaves every track its state. -/
theorem storeRow_state (sl : Slot) (id : Nat) (s : State) (j : Nat) :
    ((storeRow sl id s).track j).state = (s.track j).state := by
  simp only [storeRow]
  split
  · split
    · rfl
    · refine (placeRow_state ..).trans ?_
      split
      · exact State.track_setTrack_state s id j _ rfl
      · rfl
  · rfl

/-- Rows are asked for the tracks that are OPEN before the first is. -/
theorem askRows_eq (sl : Slot) (ids : List Nat) (s : State) :
    ids.foldl (askRow sl) s =
      (ids.filter (fun id => (s.track id).state = .open)).foldl (fun u id => storeRow sl id u) s := by
  have general (u : State) (hu : ∀ j, (u.track j).state = (s.track j).state) :
      ids.foldl (askRow sl) u =
        (ids.filter (fun id => (s.track id).state = .open)).foldl (fun u id => storeRow sl id u) u := by
    induction ids generalizing u with
    | nil => rfl
    | cons id ids ih =>
      by_cases ho : (s.track id).state = .open
      · rw [List.filter_cons_of_pos (by simpa using ho), List.foldl_cons, List.foldl_cons, askRow, hu, if_pos ho]
        exact ih _ fun j => by rw [storeRow_state, hu]
      · rw [List.filter_cons_of_neg (by simpa using ho), List.foldl_cons, askRow, hu, if_neg ho]
        exact ih u hu
  exact general s fun _ => rfl

end Sys2Proof.Machine
end

section
/-! PROOFS. The end of a line for one track: the continued or gapped record with its marks, and what becomes of it. -/

namespace Sys2Proof.Machine

/-! ## The record with its marks (R114, R115) -/

/-- Suppression or a dropped line lies behind the track, unless it was marked for it before (R115). -/
def Track.interruption (number : Nat) (o : LaneOutcome) (t : Track) : Bool :=
  t.interruptPending || (decide (t.firstLine < number) && (o.result == .suppressed || decide (0 < o.droppedBefore)))

/-- A streak continued in another patch than the last (R115). -/
def Track.crosses (o : LaneOutcome) (t : Track) : Bool :=
  t.kind == .streak && t.joined.isSome && o.patchNumber != t.patchLast

theorem Track.markInterrupted_eq (number : Nat) (o : LaneOutcome) (t : Track) :
    t.markInterrupted number o =
      { t with
        interruptPending := t.interruption number o && o.result != .inspected
        flags := { t.flags with
          interrupted := t.flags.interrupted || (t.interruption number o && o.result == .inspected) } } := by
  change (if t.interruption number o = true ∧ o.result = .inspected then _
    else { t with interruptPending := t.interruption number o }) = _
  by_cases hi : o.result = .inspected
  · cases t.interruption number o <;> simp [hi]
  · have hb : (o.result == .inspected) = false := by simpa using hi
    rw [if_neg fun h => hi h.2, bne, hb, Bool.not_false, Bool.and_true, Bool.and_false, Bool.or_false]

theorem Track.markDegraded_eq (sl : Slot) (t : Track) :
    t.markDegraded sl =
      { t with flags := { t.flags with degraded := t.flags.degraded || (sl.degraded && t.joined.isSome) } } := by
  unfold Track.markDegraded
  cases sl.degraded <;> cases t.joined.isSome <;> simp

theorem Track.markPatch_eq (o : LaneOutcome) (t : Track) :
    t.markPatch o =
      { t with
        patchesCrossed := if t.crosses o then min (t.patchesCrossed + 1) 65535 else t.patchesCrossed
        patchLast := if t.crosses o then o.patchNumber else t.patchLast } := by
  have hc : t.crosses o = true ↔ t.kind = .streak ∧ t.joined.isSome = true ∧ o.patchNumber ≠ t.patchLast := by
    simp [Track.crosses, and_assoc]
  unfold Track.markPatch
  by_cases h : t.crosses o = true
  · rw [if_pos (hc.mp h), if_pos h, if_pos h]
    rfl
  · rw [if_neg (mt hc.mpr h), if_neg h, if_neg h]

/-- The record once continuation and gap are in it. -/
def Track.carried (sl : Slot) (o : LaneOutcome) (count : Nat) (t : Track) : Track :=
  match t.joined with
  | some span =>
    { t with
      lastLine := sl.number, lastSpan := span, gap := 0, first := t.first && t.firstLine == sl.number
      inspected := min (count + 1 - t.laneCountAtFirst) 1099511627775 }
  | none =>
    if o.result = .inspected ∧
        ¬(t.kind = .streak ∧ t.origin ≠ .run ∧ sl.integrated.any (fun r => r.lane == t.lane && r.mu.isNone) = true) then
      { t with gap := t.gap + 1 }
    else t

/-- The record after continuation, gap and every mark. -/
def Track.marked (sl : Slot) (o : LaneOutcome) (count : Nat) (t : Track) : Track :=
  { t.carried sl o count with
    interruptPending := t.interruption sl.number o && o.result != .inspected
    flags := { t.flags with
      interrupted := t.flags.interrupted || (t.interruption sl.number o && o.result == .inspected)
      degraded := t.flags.degraded || (sl.degraded && t.joined.isSome) }
    patchesCrossed := if t.crosses o then min (t.patchesCrossed + 1) 65535 else t.patchesCrossed
    patchLast := if t.crosses o then o.patchNumber else t.patchLast }

theorem Track.continueLine_eq (sl : Slot) (o : LaneOutcome) (count : Nat) (t : Track) :
    t.continueLine sl o count = t.carried sl o count := by
  unfold Track.continueLine Track.carried
  cases t.joined with
  | some span => rfl
  | none =>
    refine if_congr (and_congr_right fun _ => ?_) rfl rfl
    simp [Slot.unreferenced]

/-- Continuation and gap leave what the marks read, and more, as it was. -/
theorem Track.carried_frame (sl : Slot) (o : LaneOutcome) (count : Nat) (t : Track) :
    ∃ lastLine lastSpan gap first inspected,
      t.carried sl o count =
        { t with lastLine := lastLine, lastSpan := lastSpan, gap := gap, first := first, inspected := inspected } := by
  unfold Track.carried
  split
  · exact ⟨_, _, _, _, _, rfl⟩
  · split
    · exact ⟨_, _, _, _, _, rfl⟩
    · exact ⟨_, _, _, _, _, rfl⟩

theorem Track.endLine_eq (sl : Slot) (o : LaneOutcome) (count : Nat) (t : Track) :
    t.endLine sl o count = t.marked sl o count := by
  obtain ⟨_, _, _, _, _, hc⟩ := t.carried_frame sl o count
  rw [Track.endLine, Track.continueLine_eq, Track.markPatch_eq, Track.markDegraded_eq, Track.markInterrupted_eq, Track.marked,
    hc]
  rfl

/-- What the marks leave of a track. -/
theorem Track.marked_frame (sl : Slot) (o : LaneOutcome) (count : Nat) (t : Track) :
    let m := t.marked sl o count
    m.kind = t.kind ∧ m.joined = t.joined ∧ m.openDue = t.openDue ∧ m.tentative = t.tentative ∧ m.columns = t.columns ∧
      m.progressBase = t.progressBase := by
  obtain ⟨_, _, _, _, _, hc⟩ := t.carried_frame sl o count
  simp only [Track.marked, hc, and_self]

/-! ## The end of the line for one track (R109 step 5) -/

section
variable {s : State} {sl : Slot} {id : Nat} {o : LaneOutcome} (hs : s.ict.state ≠ .faulted) (ho : (s.track id).state = .open)
  (hw : (s.track id).wrongWords = []) (hf : sl.outcomes.find? (fun o => o.lane = (s.track id).lane) = some o)
include hs ho hw hf

/-- At its turn an OPEN track closes when a close cause arises. -/
theorem endTrack_closes {cause : CloseCause}
    (hc : closeCause s.trk o ((s.track id).marked sl o (s.trk.inspected.getD (s.track id).lane 0)) = some cause) :
    endTrack sl s id =
      closeTrack id (((s.track id).marked sl o (s.trk.inspected.getD (s.track id).lane 0)).markLarge cause) cause s := by
  have hout : sl.outcomeOf (s.track id).lane = some o := hf
  simp only [endTrack, readOpen_right fun _ => hw, State.unlessFaulted, if_neg hs, ho, hout, Track.endLine_eq, hc]

/-- Otherwise it stays, and is reported when it is a streak. -/
theorem endTrack_stays
    (hc : closeCause s.trk o ((s.track id).marked sl o (s.trk.inspected.getD (s.track id).lane 0)) = none) :
    endTrack sl s id = reportStreak id ((s.track id).marked sl o (s.trk.inspected.getD (s.track id).lane 0)) s := by
  have hout : sl.outcomeOf (s.track id).lane = some o := hf
  simp only [endTrack, readOpen_right fun _ => hw, State.unlessFaulted, if_neg hs, ho, hout, Track.endLine_eq, hc]

end

/-! ## Streak reporting (R117, R118) -/

section
variable {s : State} (id : Nat) {t : Track}

/-- The track as a STREAK_OPEN leaves it. -/
def Track.opened (k : Trk) (t : Track) : Track :=
  { t with
    kind := .streak, origin := if t.promoted k then .run else t.origin, tentative := false, progressBase := t.inspected }

theorem reportStreak_opens (h : t.opensStreak s.trk = true) (hr : s.room .streakOpen) :
    reportStreak id t s = (s.setTrack id (t.opened s.trk)).withReport (streakOpenReport id (t.opened s.trk)) := by
  simp only [reportStreak, h, if_true]
  exact post_room (s.setTrack id (t.opened s.trk)) (streakOpenReport id (t.opened s.trk)) none hr

theorem reportStreak_progresses (h : t.opensStreak s.trk = false) (hp : t.progressDue s.trk = true)
    (hr : s.room .streakProgress) :
    reportStreak id t s =
      (s.setTrack id { t with progressBase := t.inspected }).withReport
        (streakProgressReport id { t with progressBase := t.inspected }) := by
  simp only [reportStreak, h, hp, if_true]
  exact post_room (s.setTrack id _) (streakProgressReport id { t with progressBase := t.inspected }) none hr

theorem reportStreak_silent (h : t.opensStreak s.trk = false) (hp : t.progressDue s.trk = false) :
    reportStreak id t s = s.setTrack id t := by
  simp only [reportStreak, h, hp]
  rfl

end

end Sys2Proof.Machine
end

section
/-! PROOFS. The STOP procedure run to its end: every OPEN track closes, and the rest of the part stands. -/

namespace Sys2Proof.Machine

/-! ## Closing every OPEN track (R121) -/

theorem unlessFaulted_eq {s : State} {f : State → State} (h : s.ict.state ≠ .faulted) : s.unlessFaulted f = f s := if_neg h

/-- Of some tracks the same are OPEN as in another part, and have right words; or MEMORY_FATAL has been taken. -/
def keepsOpen (s : State) (ids : List Nat) (u : State) : Prop :=
  u.ict.state = .faulted ∨ ∀ j ∈ ids,
    ((u.track j).state = .open ↔ (s.track j).state = .open) ∧ ((u.track j).state = .open → (u.track j).wrongWords = [])

theorem keepsOpen_spared (s : State) (ids : List Nat) : Spared (keepsOpen s ids) where
  take _ _ _ h := h
  count _ _ h := h
  stop u _ hr h := .inr (h.resolve_left fun hf => absurd (hf.symm.trans hr) (by decide))
  words u i l hw h := h.imp_right fun h j hj => by
    obtain ⟨hopen, hright⟩ := h j hj
    rw [State.track_repair_state]
    refine ⟨hopen, fun ho => ?_⟩
    rw [State.track_setTrack]
    split
    · next he =>
      rw [he.1] at ho hright
      exact absurd (hright ho) hw
    · exact hright ho
  free u i hh h := h.imp_right fun h j hj => by
    obtain ⟨hopen, hright⟩ := h j hj
    rw [State.track_freeTrack]
    split
    · next he =>
      rw [he, hh] at hopen
      rw [he]
      exact ⟨iff_of_false (by decide) (mt hopen.mpr (by decide)), fun _ => rfl⟩
    · exact ⟨hopen, hright⟩
  shut _ h := .inl h.1

/-- The close of a track leaves the others as they are, short of MEMORY_FATAL. -/
theorem closeTrack_keepsOpen {id : Nat} {ids : List Nat} (hid : id ∉ ids) (t : Track) (cause : CloseCause) {s : State}
    (hw : ∀ j ∈ ids, (s.track j).state = .open → (s.track j).wrongWords = []) : keepsOpen s ids (closeTrack id t cause s) := by
  have same (u : State) (hu : ∀ j, j ≠ id → u.track j = s.track j) : keepsOpen s ids u :=
    .inr fun j hj => by rw [hu j fun h => hid (h ▸ hj)]; exact ⟨Iff.rfl, hw j hj⟩
  have set (u : State) (hu : ∀ j, j ≠ id → u.track j = s.track j) (t : Track) :
      ∀ j, j ≠ id → (u.setTrack id t).track j = s.track j :=
    fun j hne => (State.track_setTrack_other u id j t hne).trans (hu j hne)
  have freed (u : State) (hu : ∀ j, j ≠ id → u.track j = s.track j) : ∀ j, j ≠ id → (u.freeTrack id).track j = s.track j :=
    fun j hne => by rw [State.track_freeTrack, if_neg hne, hu j hne]
  have settled (n : Nat) (u : State) (hu : ∀ j, j ≠ id → u.track j = s.track j) :
      ∀ j, j ≠ id → (settleSlot id t cause n u).track j = s.track j := by
    simp only [settleSlot]
    split
    · exact set u hu _
    · exact freed _ (set u hu t)
  simp only [closeTrack]
  split
  · exact same _ (freed _ (set s (fun _ _ => rfl) t))
  · refine (keepsOpen_spared s ids).post _ _ _ (same _ (settled _ _ fun j _ => ?_))
    split
    · simp only [countSpot]
      split <;> rfl
    · rfl

/-- The OPEN ones of some tracks close one after another, the reading of their records finding nothing. -/
theorem closeAll_list (ids : List Nat) (hnd : ids.Nodup) {s : State}
    (hw : ∀ j ∈ ids, (s.track j).state = .open → (s.track j).wrongWords = [])
    (hf : ((ids.filter (fun id => (s.track id).state = .open)).foldl
      (fun u id => closeTrack id (u.track id) .stopped u) s).ict.state ≠ .faulted) :
    ids.foldl closeOne s =
      (ids.filter (fun id => (s.track id).state = .open)).foldl (fun u id => closeTrack id (u.track id) .stopped u) s := by
  have faulted (ids : List Nat) (u : State) (hu : u.ict.state = .faulted) :
      (ids.foldl (fun u id => closeTrack id (u.track id) .stopped u) u).ict.state = .faulted :=
    foldl_keeps (P := fun u => u.ict.state = .faulted) _ (fun u id => faulted_outside.closeTrack id _ _ u) ids u hu
  induction ids generalizing s with
  | nil => rfl
  | cons id ids ih =>
    obtain ⟨hid, hnd⟩ := List.nodup_cons.mp hnd
    have hrest : ∀ j ∈ ids, (s.track j).state = .open → (s.track j).wrongWords = [] :=
      fun j hj => hw j (List.mem_cons_of_mem _ hj)
    have hs : s.ict.state ≠ .faulted := fun hs => hf (faulted _ s hs)
    by_cases ho : (s.track id).state = .open
    · rw [List.filter_cons_of_pos (by simpa using ho), List.foldl_cons] at hf ⊢
      have hone : closeOne s id = closeTrack id (s.track id) .stopped s := by
        have hread := readRecord_right (hw id List.mem_cons_self ho)
        simp only [closeOne, State.unlessFaulted, if_neg hs, if_pos ho, hread]
      have hkept := (closeTrack_keepsOpen hid (s.track id) .stopped hrest).resolve_left fun h => hf (faulted _ _ h)
      have hopen : ids.filter (fun j => (s.track j).state = .open) =
          ids.filter (fun j => ((closeTrack id (s.track id) .stopped s).track j).state = .open) := by
        refine List.filter_congr fun j hj => decide_eq_decide.mpr ?_
        exact (hkept j hj).1.symm
      rw [hopen] at hf ⊢
      rw [List.foldl_cons, hone]
      exact ih hnd (fun j hj => (hkept j hj).2) hf
    · rw [List.filter_cons_of_neg (by simpa using ho)] at hf ⊢
      have hone : closeOne s id = s := by
        simp only [closeOne, State.unlessFaulted, if_neg hs, if_neg ho]
      rw [List.foldl_cons, hone]
      exact ih hnd hrest hf

/-- Close all, when it brings no MEMORY_FATAL and no OPEN track's record has a wrong word. -/
theorem closeAll_eq {s : State} (hw : ∀ id < 64, (s.track id).state = .open → (s.track id).wrongWords = [])
    (hf : s.allClosed.ict.state ≠ .faulted) : closeAll s = s.allClosed :=
  closeAll_list (List.range 64) List.nodup_range (fun id hid => hw id (List.mem_range.mp hid)) hf

/-- Close all keeps what the close of a track keeps. -/
theorem Outside.allClosed {P : State → Prop} (hP : Outside P) (s : State) (h : P s) : P s.allClosed :=
  foldl_keeps _ (fun u id => hP.closeTrack id _ _ u) _ s h

/-! ## The steps of the STOP procedure (R173) -/

/-- The part with every slot discarded. -/
def State.slotsDiscarded (s : State) : State := { s with las := s.las.discardSlots (fun sl => sl.state ≠ .free) }

section
variable {s : State} (h : s.stopRuns)
include h

/-- The steps before the reply leave the link as it was, and the cause of the stop. -/
theorem State.stopped_frame (hs : s.ict.state = .stopping) :
    s.stopped.lnk = s.lnk ∧ s.stopped.ict.lastStop = s.ict.lastStop := by
  obtain ⟨-, hf, -⟩ := h
  have hlnk := ((undisturbed_outside _ s.lnk).allClosed s.slotsDiscarded (.inr ⟨rfl, rfl⟩)).resolve_left hf
  have hstop := ((stoppingFor_outside s.ict.lastStop).allClosed s.slotsDiscarded (.inr ⟨hs, rfl⟩)).resolve_left hf
  exact ⟨hlnk.2, hstop.2⟩

/-- The STOP procedure runs to its end: every step, and then the reply. -/
theorem finishStop_runs (hs : s.ict.state = .stopping) :
    finishStop s = s.stopped.finishRequest (.stop .stopped s.ict.lastStop) := by
  obtain ⟨hw, hf, hr⟩ := h
  have hclosed : closeAll s.slotsDiscarded = s.slotsDiscarded.allClosed := closeAll_eq hw hf
  have hentered : enterState .stopped { s.slotsDiscarded.allClosed with
      lnc := s.slotsDiscarded.allClosed.lnc.map Lane.stopStep } = s.stopped :=
    enterState_room { s.slotsDiscarded.allClosed with lnc := _ } .stopped hr
  have hlast := (s.stopped_frame ⟨hw, hf, hr⟩ hs).2
  change (closeAll s.slotsDiscarded).unlessFaulted _ = _
  rw [hclosed]
  refine (unlessFaulted_eq hf).trans ?_
  refine (congrArg (State.unlessFaulted · fun s => s.finishRequest (.stop s.ict.state s.ict.lastStop)) hentered).trans ?_
  refine (unlessFaulted_eq (s := s.stopped) (show Inspection.stopped ≠ .faulted by decide)).trans ?_
  rw [hlast]
  rfl

end

theorem finishRequest_none {s : State} (d : Done) (h : s.lnk.inProgress = none) : s.finishRequest d = s := by
  simp only [State.finishRequest, h]

/-- The reply of the request in progress enters a buffer with a free place. -/
theorem finishRequest_enters {s : State} {tag : Byte} (d : Done) (h : s.lnk.inProgress = some { tag := tag, reply := none })
    (hl : s.lnk.replies.length < Config.replyBufferSize) :
    s.finishRequest d = State.withReply { s with lnk := { s.lnk with inProgress := none } } tag (.done d) := by
  simp only [State.finishRequest, h, if_pos hl]
  rfl

/-- The STOP procedure goes on when no line is in processing. -/
theorem finishProcedures_stopping {s : State} (h : s.stopRuns) (hs : s.ict.state = .stopping)
    (hp : s.las.processing = none) : finishProcedures s = s.stopped.finishRequest (.stop .stopped s.ict.lastStop) := by
  have hc : settleCalibration s = s := by
    simp only [settleCalibration, calibrationDue, hs]
    split <;> simp
  rw [finishProcedures, hc, runStop, if_pos ⟨hs, hp⟩, finishStop_runs h hs]

end Sys2Proof.Machine
end

section
/-! PROOFS. TRK's stage of a line, step by step: findings, rows and ends of tracks, PATCH reports, and the end of the line. -/

namespace Sys2Proof.Machine

/-! ## Findings, rows and ends of tracks (R109 steps 1 to 5) -/

/-- The part as TRK's stage of a line begins. -/
def State.stageBegun (s : State) (sl : Slot) : State :=
  State.mapTracks { s with trk := s.trk.countLine sl } Track.beginStage

/-- The part with the findings of the line taken. -/
def State.stageFound (s : State) (sl : Slot) : State :=
  (sl.runs.map Finding.run ++ sl.alerts.map Finding.alert).foldl (takeFinding sl) (s.stageBegun sl)

/-- The part with a row asked for each OPEN track. -/
def State.stageStored (s : State) (sl : Slot) : State :=
  ((List.range 64).filter (fun id => ((s.stageFound sl).track id).state = .open)).foldl (fun u id => storeRow sl id u)
    (s.stageFound sl)

/-- The part with the end of the line taken for each track. -/
def State.stageClosed (s : State) (sl : Slot) : State := (List.range 64).foldl (endTrack sl) (s.stageStored sl)

/-- A change of every track that leaves a FREE one as it is shows in each. -/
theorem State.track_mapTracks (s : State) {g : Track → Track} (hg : g Track.blank = Track.blank) (id : Nat) :
    (s.mapTracks g).track id = g (s.track id) := by
  by_cases h : id < s.trk.slots.length
  · simp [State.track, Trk.slot, State.mapTracks, List.getD, h]
  · rw [State.track_of_le (Nat.le_of_not_lt h), hg, State.track_of_le]
    simpa [State.mapTracks] using Nat.le_of_not_lt h

theorem Outside.stageClosed {P : State → Prop} (hP : Outside P) (sl : Slot) (s : State) (h : P s) : P (s.stageClosed sl) := by
  refine foldl_keeps _ (fun u id => hP.endTrack sl u id) _ _ ?_
  refine foldl_keeps _ (fun u id => hP.storeRow sl id u) _ _ ?_
  refine foldl_keeps _ (fun u f => hP.takeFinding sl u f) _ _ ?_
  exact hP.tracks s _ _ _ h

section
variable {s : State} (hs : s.ict.state ≠ .faulted)

theorem endTrack_faulted (sl : Slot) {s : State} (h : s.ict.state = .faulted) (id : Nat) : endTrack sl s id = s := by
  simp only [endTrack, readOpen, State.unlessFaulted, if_pos h]

theorem endTrack_notOpen (sl : Slot) {s : State} {id : Nat} (h : (s.track id).state ≠ .open) : endTrack sl s id = s := by
  rw [endTrack, readOpen_right fun ho => absurd ho h, State.unlessFaulted]
  split
  · rfl
  · dsimp only
    split
    · next ho _ => exact absurd ho h
    · rfl

include hs

/-- The part as the stage begins can be read when its OPEN tracks have right words. -/
theorem stageBegun_readable (sl : Slot) (hw : ∀ id < 64, (s.track id).state = .open → (s.track id).wrongWords = []) :
    (s.stageBegun sl).readable := by
  refine ⟨fun hf => absurd hf hs, fun id hid => ?_⟩
  rw [State.stageBegun, State.track_mapTracks _ rfl]
  exact hw id hid

/-- The stage goes on to its PATCH reports, and to the end of the line, unless MEMORY_FATAL is taken before. -/
theorem trkLine_eq (i : Nat) (hw : ∀ id < 64, (s.track id).state = .open → (s.track id).wrongWords = []) :
    trkLine i s =
      (s.stageClosed (s.las.slot i)).unlessFaulted fun u =>
        ((List.range 16).foldl postPatch (u.mapTracks Track.endStage)).unlessFaulted State.endLine := by
  generalize hsl : s.las.slot i = sl
  obtain ⟨hmatch, hread⟩ :=
    matchFindings_readable sl (sl.runs.map Finding.run ++ sl.alerts.map Finding.alert) (stageBegun_readable hs sl hw)
  have hstored : (List.range 64).foldl (askRow sl) (s.stageFound sl) = s.stageStored sl := askRows_eq sl _ _
  have hline : trkLine i s = (s.stageFound sl).unlessFaulted fun u =>
      ((List.range 64).foldl (endTrack sl) ((List.range 64).foldl (askRow sl) u)).unlessFaulted fun u =>
        ((List.range 16).foldl postPatch (u.mapTracks Track.endStage)).unlessFaulted State.endLine := by
    rw [trkLine, hsl]
    exact congrArg (State.unlessFaulted · _) hmatch
  rw [hline]
  by_cases hf : (s.stageFound sl).ict.state = .faulted
  · have hnone : s.stageStored sl = s.stageFound sl := by
      rw [State.stageStored, List.filter_eq_nil_iff.mpr fun id _ => by rw [decide_eq_true_eq]; exact hread.1 hf id]
      rfl
    have hclosed : s.stageClosed sl = s.stageFound sl := by
      rw [State.stageClosed, hnone]
      exact foldl_unchanged fun id _ => endTrack_faulted sl hf id
    rw [hclosed]
    exact (if_pos hf).trans (if_pos hf).symm
  · refine (unlessFaulted_eq hf).trans ?_
    rw [hstored]
    rfl

end

/-! ## PATCH reports (R71) -/

/-- The PATCH reports of the lanes below `n`, in lane order. -/
def State.patchReports (s : State) (n : Nat) : List Report :=
  (List.range n).filterMap (fun i => (lane s i).ended.map (patchReport i (lane s i)))

/-- The part with the ended patches of the lanes below `n` taken. -/
def State.patchesTaken (s : State) (n : Nat) : State :=
  { s with lnc := s.lnc.mapIdx (fun i l => if i < n then { l with ended := none } else l) }

/-- Reports entered one after another change the report queue alone. -/
theorem withReports_frame (rs : List Report) (s : State) :
    ∃ rpq, rs.foldl State.withReport s = { s with rpq := rpq } ∧ rpq.queue.length = s.rpq.queue.length + rs.length ∧
      rpq.priority = s.rpq.priority := by
  induction rs generalizing s with
  | nil => exact ⟨s.rpq, rfl, rfl, rfl⟩
  | cons r rs ih =>
    obtain ⟨rpq, h, hlen, hp⟩ := ih (s.withReport r)
    refine ⟨rpq, h, ?_, hp⟩
    rw [hlen]
    simp [State.withReport, Rpq.enter]
    omega

theorem withReports_setLane (rs : List Report) (s : State) (i : Nat) (l : Lane) :
    rs.foldl State.withReport (s.setLane i l) = (rs.foldl State.withReport s).setLane i l := by
  induction rs generalizing s with
  | nil => rfl
  | cons r rs ih => exact ih (s.withReport r)

theorem patchesTaken_zero (s : State) : s.patchesTaken 0 = s := by
  have h : s.lnc.mapIdx (fun i l => if i < 0 then { l with ended := none } else l) = s.lnc :=
    List.ext_getElem (by simp) (by simp)
  rw [State.patchesTaken, h]

theorem lane_patchesTaken (s : State) (n : Nat) : lane (s.patchesTaken n) n = lane s n := by
  simp only [lane, State.patchesTaken, List.getD, List.getElem?_mapIdx]
  cases s.lnc[n]? <;> simp

/-- The next lane's ended patch is taken. -/
theorem patchesTaken_succ (s : State) (n : Nat) :
    (s.patchesTaken n).setLane n { lane s n with ended := none } = s.patchesTaken (n + 1) := by
  unfold State.setLane State.patchesTaken
  congr 1
  refine List.ext_getElem (by simp) fun i hi _ => ?_
  have hl : i < s.lnc.length := by simpa using hi
  simp only [List.getElem_set, List.getElem_mapIdx]
  by_cases h : n = i
  · subst h
    simp [lane, List.getD, hl]
  · have : i < n + 1 ↔ i < n := by omega
    simp [h, this]

theorem patchesTaken_succ_none {s : State} {n : Nat} (h : (lane s n).ended = none) :
    s.patchesTaken (n + 1) = s.patchesTaken n := by
  have hl : ({ lane s n with ended := none } : Lane) = lane s n := by rw [← h]
  rw [← patchesTaken_succ, hl, ← lane_patchesTaken s n]
  unfold State.setLane
  have : (s.patchesTaken n).lnc.set n (lane (s.patchesTaken n) n) = (s.patchesTaken n).lnc := by
    by_cases hn : n < (s.patchesTaken n).lnc.length
    · simp [lane, List.getD, hn]
    · exact List.set_eq_of_length_le (Nat.le_of_not_lt hn)
  rw [this]

theorem patchReports_succ (s : State) (n : Nat) :
    s.patchReports (n + 1) = s.patchReports n ++ ((lane s n).ended.map (patchReport n (lane s n))).toList := by
  rw [State.patchReports, List.range_succ, List.filterMap_append, ← State.patchReports]
  cases h : (lane s n).ended <;> simp [h]

theorem postPatch_none {s : State} {i : Nat} (h : (lane s i).ended = none) : postPatch s i = s := by
  simp only [postPatch, State.unlessFaulted, h]
  split <;> rfl

theorem postPatch_room {s : State} {i : Nat} {e : EndedPatch} (hs : s.ict.state ≠ .faulted)
    (h : (lane s i).ended = some e) (hr : s.room .patch) :
    postPatch s i = (s.setLane i { lane s i with ended := none }).withReport (patchReport i (lane s i) e) := by
  simp only [postPatch, State.unlessFaulted, if_neg hs, h]
  exact post_room (s.setLane i { lane s i with ended := none }) (patchReport i (lane s i) e) none hr

/-- The PATCH reports are posted in lane order when all of them have room. -/
theorem postPatches_room {s : State} (hs : s.ict.state ≠ .faulted)
    (hr : s.patchReports 16 = [] ∨
      (s.rpq.queue.length + (s.patchReports 16).length ≤ 128 ∧ 0 < s.rpq.priorityOf .patch)) (n : Nat) (hn : n ≤ 16) :
    (List.range n).foldl postPatch s = (s.patchReports n).foldl State.withReport (s.patchesTaken n) := by
  induction n with
  | zero =>
    rw [patchesTaken_zero]
    rfl
  | succ n ih =>
    rw [List.range_succ, List.foldl_append, ih (by omega), patchReports_succ, List.foldl_append, List.foldl_cons,
      List.foldl_nil]
    obtain ⟨rpq, hu, hlen, hp⟩ := withReports_frame (s.patchReports n) (s.patchesTaken n)
    have hlane : lane ((s.patchReports n).foldl State.withReport (s.patchesTaken n)) n = lane s n := by
      rw [hu]
      exact lane_patchesTaken s n
    cases he : (lane s n).ended with
    | none =>
      rw [postPatch_none (by rw [hlane, he]), patchesTaken_succ_none he]
      rfl
    | some e =>
      have hroom : State.room ((s.patchReports n).foldl State.withReport (s.patchesTaken n)) .patch := by
        have hlonger : (s.patchReports (n + 1)).length ≤ (s.patchReports 16).length :=
          ((List.range_sublist.mpr hn).filterMap _).length_le
        have hone : (s.patchReports (n + 1)).length = (s.patchReports n).length + 1 := by
          rw [patchReports_succ, he]
          simp
        obtain ⟨hfit, hprio⟩ := hr.resolve_left fun h => by rw [h, List.length_nil] at hlonger; omega
        have hqueue : rpq.queue.length = s.rpq.queue.length + (s.patchReports n).length := hlen
        rw [hu]
        exact ⟨show rpq.queue.length < 128 by omega, by rw [Rpq.priorityOf, hp]; exact hprio⟩
      rw [postPatch_room (by rw [hu]; exact hs) (by rw [hlane, he]) hroom, hlane, ← patchesTaken_succ, withReports_setLane]
      rfl

/-- The part with every PATCH report posted. -/
def State.patchesPosted (s : State) : State :=
  (s.patchReports 16).foldl State.withReport ((s.mapTracks Track.endStage).patchesTaken 16)

theorem State.patchesPosted_frame (s : State) :
    s.patchesPosted.las = s.las ∧ s.patchesPosted.lnk = s.lnk ∧ s.patchesPosted.ict = s.ict := by
  obtain ⟨_, h, -⟩ := withReports_frame (s.patchReports 16) ((s.mapTracks Track.endStage).patchesTaken 16)
  rw [State.patchesPosted, h]
  exact ⟨rfl, rfl, rfl⟩

/-- The PATCH report of an ended patch, item by item (Table XXX). -/
theorem patchReport_eq (i : Nat) (l : Lane) (e : EndedPatch) :
    patchReport i l e =
      (let length := e.endLine + 1 - e.patch.start
       let least := (l.settings.map (·.lengthMin)).getD 0
       let most := (l.settings.map (·.lengthMax)).getD 0
       .patch i l.patchNumber e.patch.start e.endLine length e.patch.spots e.patch.voids
         (decide (0 < least ∧ length < least)) (decide (0 < most ∧ most < length)) e.patch.flags) := by
  unfold patchReport
  cases l.settings <;> rfl

/-! ## The end of the line (R31, R175) -/

/-- The line is the last of a run's numbers, and its stop is held pending. -/
def State.atLimit (s : State) (sl : Slot) : Prop :=
  sl.kind = .run ∧ sl.number = Config.lastLineNumber ∧ s.ict.limitPending = true

section
variable {s : State} {p : Processing} (hp : s.las.processing = some p)
include hp

theorem releaseLine_eq :
    s.releaseLine =
      { s with
        las := { s.las with slots := s.las.slots.set p.slot Slot.blank, processing := none }
        rpq := s.rpq.applyPending } := by
  simp only [State.releaseLine, hp]

/-- The last line of a run begins the stop that is held pending. -/
theorem endLine_limit (hs : s.ict.state = .running) (h : s.atLimit (s.las.slot p.slot)) :
    s.endLine = beginStop .lineLimit s.releaseLine := by
  obtain ⟨hk, hn, hl⟩ := h
  have hict : s.releaseLine.ict = s.ict := by rw [releaseLine_eq hp]
  simp only [State.endLine, hp, hict, hk, hn, hl, hs]
  rfl

theorem endLine_releases (h : s.ict.state = .running → ¬s.atLimit (s.las.slot p.slot)) : s.endLine = s.releaseLine := by
  have hict : s.releaseLine.ict = s.ict := by rw [releaseLine_eq hp]
  simp only [State.endLine, hp]
  refine if_neg fun hc => ?_
  simp only [Bool.and_eq_true, beq_iff_eq, hict] at hc
  obtain ⟨⟨⟨hk, hn⟩, hl⟩, hs⟩ := hc
  exact h hs ⟨hk, hn, hl⟩

end

/-- A line that has passed the other stages goes through TRK's. -/
theorem trkStage_passed {s : State} {p : Processing} (hp : s.las.processing = some p) (hl : p.lnc = true)
    (hspd : p.spd = true) (hsti : p.sti = true) : trkStage s = trkLine p.slot s := by
  simp only [trkStage, hp, hl, hspd, hsti, and_self, if_true]

/-- Every PATCH report is posted when all of them have room. -/
theorem postPatches_ended {s : State} (hs : s.ict.state ≠ .faulted)
    (hr : s.patchReports 16 = [] ∨
      (s.rpq.queue.length + (s.patchReports 16).length ≤ 128 ∧ 0 < s.rpq.priorityOf .patch)) :
    (List.range 16).foldl postPatch (s.mapTracks Track.endStage) = s.patchesPosted := by
  have hreports (n : Nat) : (s.mapTracks Track.endStage).patchReports n = s.patchReports n := rfl
  rw [postPatches_room (s := s.mapTracks Track.endStage) hs (by rw [hreports]; exact hr) 16 le_rfl, hreports]
  rfl

/-- The stage of a line that brings no MEMORY_FATAL and whose PATCH reports have room ends the line. -/
theorem trkLine_ends {s u : State} {i : Nat} (hs : s.ict.state ≠ .faulted)
    (hw : ∀ id < 64, (s.track id).state = .open → (s.track id).wrongWords = []) (hu : s.stageClosed (s.las.slot i) = u)
    (hf : u.ict.state ≠ .faulted)
    (hr : u.patchReports 16 = [] ∨
      (u.rpq.queue.length + (u.patchReports 16).length ≤ 128 ∧ 0 < u.rpq.priorityOf .patch)) :
    trkLine i s = u.patchesPosted.endLine := by
  rw [trkLine_eq hs i hw, hu, unlessFaulted_eq hf, postPatches_ended hf hr]
  exact unlessFaulted_eq (by rw [u.patchesPosted_frame.2.2]; exact hf)

end Sys2Proof.Machine
end

section
/-! PROOFS. The statement on TRK's stage: which close cause arises, when a streak is reported, and how the event of the stage ends. -/

namespace Sys2Proof.Machine

/-! ## The close cause of a track (R116, R117) -/

section
variable {k : Trk} {o : LaneOutcome} {t : Track}

theorem Trk.gapTolerance_eq (k : Trk) (t : Track) :
    k.gapTolerance t = if t.kind = .spot then k.spotGap else k.streakGap := by
  unfold Trk.gapTolerance
  cases t.kind <;> rfl

/-- A SPOT continued at its greatest length that is not promoted (R117). -/
def Track.tooLong (k : Trk) (t : Track) : Prop :=
  t.kind = .spot ∧ t.joined ≠ none ∧ t.promoted k = false ∧ k.spotMax ≤ t.inspected

theorem Track.tooLong_iff :
    t.tooLong k ↔ t.kind = .spot ∧ t.joined.isSome = true ∧ t.promoted k = false ∧ k.spotMax ≤ t.inspected := by
  rw [Track.tooLong, Option.isSome_iff_ne_none]

theorem closeCause_laneChanged (h : o.result = .laneChanged) : closeCause k o t = some .laneChanged := if_pos h

theorem closeCause_patchEnd (hl : o.result ≠ .laneChanged) (h : o.patchEnd = true ∧ t.kind = .spot) :
    closeCause k o t = some .patchEnd := by
  rw [closeCause, if_neg hl, if_pos h]

theorem closeCause_sizeLimit (hl : o.result ≠ .laneChanged) (hp : ¬(o.patchEnd = true ∧ t.kind = .spot)) (h : t.tooLong k) :
    closeCause k o t = some .sizeLimit := by
  rw [closeCause, if_neg hl, if_neg hp, if_pos (Track.tooLong_iff.mp h)]

theorem closeCause_gapExceeded (hl : o.result ≠ .laneChanged) (hp : ¬(o.patchEnd = true ∧ t.kind = .spot))
    (hs : ¬t.tooLong k) (h : k.gapTolerance t < t.gap) : closeCause k o t = some .gapExceeded := by
  rw [closeCause, if_neg hl, if_neg hp, if_neg (mt Track.tooLong_iff.mpr hs), if_pos h]

theorem closeCause_none (hl : o.result ≠ .laneChanged) (hp : ¬(o.patchEnd = true ∧ t.kind = .spot)) (hs : ¬t.tooLong k)
    (hg : ¬k.gapTolerance t < t.gap) : closeCause k o t = none := by
  rw [closeCause, if_neg hl, if_neg hp, if_neg (mt Track.tooLong_iff.mpr hs), if_neg hg]

end

/-! ## When a streak is reported (R118) -/

theorem Track.opensStreak_iff (k : Trk) (t : Track) :
    t.opensStreak k = true ↔
      t.promoted k = true ∨ t.openDue = true ∨
        (t.kind = .streak ∧ t.tentative = true ∧ t.joined ≠ none ∧ k.streakMin ≤ t.inspected) := by
  simp only [Track.opensStreak, Bool.or_eq_true, Bool.and_eq_true, beq_iff_eq, decide_eq_true_eq,
    Option.isSome_iff_ne_none, and_assoc, or_assoc]

theorem Track.progressDue_iff (k : Trk) (t : Track) :
    t.progressDue k = true ↔
      t.kind = .streak ∧ t.tentative = false ∧ t.joined ≠ none ∧ 0 < k.progress ∧ k.progress ≤ t.inspected - t.progressBase := by
  simp only [Track.progressDue, Track.established, Bool.and_eq_true, beq_iff_eq, decide_eq_true_eq,
    Option.isSome_iff_ne_none, and_assoc, Bool.not_eq_true']

/-! ## A line without findings -/

/-- Without findings and OPEN tracks the stage closes nothing and asks for no row. -/
theorem stageClosed_idle {s : State} {sl : Slot} (hr : sl.runs = []) (ha : sl.alerts = [])
    (ho : ∀ id < 64, (s.track id).state ≠ .open) : s.stageClosed sl = s.stageBegun sl := by
  have hopen : ∀ id ∈ List.range 64, ((s.stageBegun sl).track id).state ≠ .open := fun id hid => by
    rw [State.stageBegun, State.track_mapTracks _ rfl]
    exact ho id (List.mem_range.mp hid)
  have hfound : s.stageFound sl = s.stageBegun sl := by
    rw [State.stageFound, hr, ha]
    rfl
  have hstored : s.stageStored sl = s.stageBegun sl := by
    rw [State.stageStored, hfound, List.filter_eq_nil_iff.mpr fun id hid => by rw [decide_eq_true_eq]; exact hopen id hid]
    rfl
  rw [State.stageClosed, hstored]
  exact foldl_unchanged fun id hid => endTrack_notOpen sl (hopen id hid)

section
variable {s : State} (h : ∀ i < 16, (lane s i).ended = none)
include h

theorem patchReports_nil : s.patchReports 16 = [] :=
  List.filterMap_eq_nil_iff.mpr fun i hi => by rw [h i (List.mem_range.mp hi), Option.map_none]

theorem patchesTaken_idle (n : Nat) (hn : n ≤ 16) : s.patchesTaken n = s := by
  induction n with
  | zero => exact patchesTaken_zero s
  | succ n ih => rw [patchesTaken_succ_none (h n hn), ih (Nat.le_of_succ_le hn)]

/-- Without ended patches nothing is posted. -/
theorem State.patchesPosted_idle : s.patchesPosted = s.mapTracks Track.endStage := by
  rw [State.patchesPosted, patchReports_nil h]
  exact patchesTaken_idle (s := s.mapTracks Track.endStage) h 16 le_rfl

end

/-- With nothing to take, close or report the stage counts the line and ends it. -/
theorem trkStage_idle {s : State} {p : Processing} (hp : s.las.processing = some p) (hl : p.lnc = true) (hspd : p.spd = true)
    (hsti : p.sti = true) (hs : s.ict.state ≠ .faulted) (hlimit : s.ict.limitPending = false)
    (hruns : (s.las.slot p.slot).runs = []) (halerts : (s.las.slot p.slot).alerts = [])
    (ho : ∀ id < 64, (s.track id).state ≠ .open) (hlanes : ∀ i < 16, (lane s i).ended = none) :
    trkStage s = ((s.stageBegun (s.las.slot p.slot)).mapTracks Track.endStage).releaseLine := by
  have hposted : (s.stageBegun (s.las.slot p.slot)).patchesPosted =
      (s.stageBegun (s.las.slot p.slot)).mapTracks Track.endStage := State.patchesPosted_idle hlanes
  have hreports : (s.stageBegun (s.las.slot p.slot)).patchReports 16 = [] := patchReports_nil hlanes
  rw [trkStage_passed hp hl hspd hsti, trkLine_ends hs (fun id hid h => absurd h (ho id hid))
    (stageClosed_idle hruns halerts ho) hs (.inl hreports), hposted]
  exact endLine_releases (p := p) hp fun _ h => Bool.false_ne_true (hlimit.symm.trans h.2.2)

/-- Short of MEMORY_FATAL the ends of the tracks leave LAS and the link alone. -/
theorem stageClosed_kept {s u : State} {sl : Slot} (hu : s.stageClosed sl = u) (hf : u.ict.state ≠ .faulted) :
    u.las = s.las ∧ u.lnk = s.lnk := by
  have h := (undisturbed_outside s.las s.lnk).stageClosed sl s (.inr ⟨rfl, rfl⟩)
  rw [hu] at h
  exact h.resolve_left hf

/-! ## A stop that goes on as the line ends (R173) -/

section
variable (event : State → State) {s t : State} (hrest : s.atRest) (ht : event s = t) (hl : t.lnk = s.lnk)
  (hs : t.ict.state = .stopping) (hp : t.las.processing = none) (hr : t.stopRuns)
include hrest ht hl hs hp hr

/-- With no line in processing left the STOP procedure runs to its end. -/
theorem inService_stops (hn : s.lnk.inProgress = none) : inService event s = .next t.stopped.sends := by
  have hlnk : t.stopped.lnk = s.lnk := (t.stopped_frame hr hs).1.trans hl
  refine inService_of_finished event hrest ht ?_ hlnk (State.nothingDue_of_ended (.inl rfl))
  rw [finishProcedures_stopping hr hs hp, finishRequest_none _ (by rw [hlnk, hn])]

/-- The STOP procedure answers the STOP in progress. -/
theorem inService_stops_answered {tag : Byte} (hn : s.lnk.inProgress = some { tag := tag, reply := none })
    (hq : s.lnk.requests = []) (hb : s.lnk.replies.length < Config.replyBufferSize) :
    inService event s =
      .next (State.withReply { t.stopped with lnk := { s.lnk with inProgress := none } } tag
        (.done (.stop .stopped t.ict.lastStop))).sends := by
  have hlnk : t.stopped.lnk = s.lnk := (t.stopped_frame hr hs).1.trans hl
  have hfin : finishProcedures t =
      State.withReply { t.stopped with lnk := { s.lnk with inProgress := none } } tag
        (.done (.stop .stopped t.ict.lastStop)) := by
    rw [finishProcedures_stopping hr hs hp, finishRequest_enters _ (by rw [hlnk, hn]) (by rw [hlnk]; exact hb), hlnk]
  obtain ⟨hh, -, hc, -⟩ := hrest
  have hsettle : settle t = _ :=
    (settle_of_finished hfin (State.nothingDue_of_ended (.inl rfl))).trans
      (settle_of_unclaimed _ (State.nothingDue_of_ended (.inl rfl)) (hc hb).2 (claimant_none _ hq rfl))
  simp [inService, hh, ht, hsettle]

end

end Sys2Proof.Machine

namespace Sys2Proof.SensorHeads

open Sys2Proof.Machine

/-- Settles O50: the stage's steps follow one another unless MEMORY_FATAL ends it, a stop goes on once the line has ended, and for one
track the close causes are taken in the order of Table L. -/
theorem trkStage : Obligations.TrkStage := by
  refine ⟨?_, ?_, ?_⟩
  · intro s p hrest hs hlimit hp hl hspd hsti hruns halerts ho hlanes
    have hline := trkStage_idle hp hl hspd hsti (by rw [hs]; decide) hlimit hruns halerts ho hlanes
    rw [releaseLine_eq (s := (s.stageBegun _).mapTracks _) (p := p) hp, State.mapTracks, State.stageBegun,
      State.mapTracks, List.map_map] at hline
    refine (inService_of_posted Machine.trkStage hrest hline rfl (State.nothingDue_of_running hs)).trans ?_
    exact congrArg _ (State.sends_of_allSent _ hrest.2.2.2)
  · intro s p hrest hp hl hspd hsti hs hw sl begun found stored closed
    have hclosed : s.stageClosed sl = closed := rfl
    clear_value closed
    have hstage : Machine.trkStage s = trkLine p.slot s := trkStage_passed hp hl hspd hsti
    refine ⟨fun hn hf => ?_, ?_⟩
    · have hlnk : (s.stageClosed sl).lnk = s.lnk := ((lnk_stable hn).outside fun _ _ _ _ h => h).stageClosed sl s rfl
      rw [hclosed] at hlnk
      have hline : Machine.trkStage s = closed := by
        rw [hstage, trkLine_eq hs _ hw, hclosed]
        exact if_pos hf
      exact inService_of_posted Machine.trkStage hrest hline hlnk (State.nothingDue_of_ended (.inr hf))
    · intro hf reports posted ended atLimit hroom
      obtain ⟨hlas, hlnk⟩ := stageClosed_kept hclosed hf
      have hreports : closed.patchReports 16 = reports :=
        List.filterMap_congr fun i _ => congrArg (Option.map · _) (funext fun e => patchReport_eq i (lane closed i) e)
      have hposted : closed.patchesPosted = posted := by
        rw [State.patchesPosted, hreports]
        rfl
      obtain ⟨hpostedLas, hpostedLnk, hpostedIct⟩ := closed.patchesPosted_frame
      rw [hposted] at hpostedLas hpostedLnk hpostedIct
      have hslot : posted.las.slot p.slot = sl := by rw [hpostedLas, hlas]
      have hpp : posted.las.processing = some p := by rw [hpostedLas, hlas, hp]
      have hended : posted.releaseLine = ended := releaseLine_eq hpp
      have hendedLnk : ended.lnk = s.lnk := hpostedLnk.trans hlnk
      have hline : Machine.trkStage s = posted.endLine := by
        rw [hstage, trkLine_ends hs hw hclosed hf (by rw [hreports]; exact hroom), hposted]
      have hlimit : posted.atLimit (posted.las.slot p.slot) ↔ atLimit := by rw [State.atLimit, hslot, hpostedIct]; rfl
      have hreleases (h : closed.ict.state = .running → ¬atLimit) : Machine.trkStage s = ended := by
        rw [hline, endLine_releases hpp (by rw [hpostedIct, hlimit]; exact h), hended]
      refine ⟨fun hrun h => ?_, ?_, fun hstop hu => ?_⟩
      · exact inService_of_posted Machine.trkStage hrest (hreleases fun _ => h) hendedLnk
          (State.nothingDue_of_running (by rw [← hrun, ← hpostedIct]))
      · intro hrun h hn hstate u hu
        have hbegins : Machine.trkStage s = u := by
          rw [hline, endLine_limit hpp (by rw [hpostedIct, hrun]) (hlimit.mpr h), hended]
          exact beginStop_room .lineLimit ended hstate
        exact inService_stops Machine.trkStage hrest hbegins hendedLnk rfl rfl hu hn
      · have hreleased := hreleases fun h => absurd (hstop.symm.trans h) (by decide)
        have hstopping : ended.ict.state = .stopping := by rw [← hstop, ← hpostedIct]
        exact ⟨inService_stops Machine.trkStage hrest hreleased hendedLnk hstopping rfl hu, fun tag hn hq hb =>
          inService_stops_answered Machine.trkStage hrest hreleased hendedLnk hstopping rfl hu hn hq hb⟩
  · intro s sl id o hs ho hw hf t unreferenced continued pending crossed m promoted laneChanged patchEnd tooLong tooFar opens
      progresses kept
    obtain ⟨hkind, hjoined, hdue, htentative, hcolumns, hbase⟩ := t.marked_frame sl o (s.trk.inspected.getD t.lane 0)
    have hmark : t.marked sl o (s.trk.inspected.getD t.lane 0) = m := rfl
    rw [hmark] at hkind hjoined hdue htentative hcolumns hbase
    have hpromoted : m.promoted s.trk = promoted := by
      simp only [Track.promoted, hkind, hjoined, hcolumns, Bool.decide_and, ← Bool.and_assoc]
      rfl
    have hpatch : patchEnd ↔ o.patchEnd = true ∧ m.kind = .spot := by rw [hkind]
    have hlong : tooLong ↔ m.tooLong s.trk := by rw [Track.tooLong, hkind, hjoined, hpromoted]
    have hfar : tooFar ↔ s.trk.gapTolerance m < m.gap := by rw [Trk.gapTolerance_eq, hkind]
    have hopens : opens ↔ m.opensStreak s.trk = true := by
      rw [Track.opensStreak_iff, hpromoted, hdue, hkind, htentative, hjoined]
    have hprogresses : progresses ↔ m.progressDue s.trk = true := by
      rw [Track.progressDue_iff, hkind, htentative, hjoined, hbase]
    refine ⟨fun hl => ?_, fun hl hp => ?_, fun hl hp ht => ?_, fun hl hp ht hg => ?_, fun hl hp ht hg => ?_⟩
    · exact endTrack_closes hs ho hw hf (closeCause_laneChanged hl)
    · exact endTrack_closes hs ho hw hf (closeCause_patchEnd hl (hpatch.mp hp))
    · exact endTrack_closes hs ho hw hf (closeCause_sizeLimit hl (mt hpatch.mpr hp) (hlong.mp ht))
    · exact endTrack_closes hs ho hw hf
        (closeCause_gapExceeded hl (mt hpatch.mpr hp) (mt hlong.mpr ht) (hfar.mp hg))
    · have hstays : endTrack sl s id = reportStreak id m s := endTrack_stays hs ho hw hf
        (closeCause_none hl (mt hpatch.mpr hp) (mt hlong.mpr ht) (mt hfar.mpr hg))
      rw [hstays]
      refine ⟨fun h hr => ?_, fun h hp hr => ?_, fun h hp => ?_⟩
      · rw [reportStreak_opens id (hopens.mp h) hr, Track.opened, hpromoted]
        rfl
      · exact reportStreak_progresses id (Bool.eq_false_iff.mpr (mt hopens.mpr h)) (hprogresses.mp hp) hr
      · exact reportStreak_silent id (Bool.eq_false_iff.mpr (mt hopens.mpr h))
          (Bool.eq_false_iff.mpr (mt hprogresses.mpr hp))

end Sys2Proof.SensorHeads
end
section
/-! PROOFS. What the processing of frames and the procedures leave of the link. -/

namespace Sys2Proof.Machine

/-! ## The link through a request's processing (R161) -/

/-- What the processing of a request makes of a link: the request queue and the transmitter stand, the reject hold is at most emptied, and
a reply of the request in progress waits for a full reply buffer alone. -/
structure State.carries (l : Lnk) (s : State) : Prop where
  requests : s.lnk.requests = l.requests
  hold : s.lnk.rejectHold = l.rejectHold ∨ s.lnk.rejectHold = none
  tx : s.lnk.tx = l.tx
  waits : ∀ p r, s.lnk.inProgress = some p → p.reply = some r → Config.replyBufferSize ≤ s.lnk.replies.length

theorem State.carries_self {s : State} (h : s.lnk.inProgress = none) : s.carries s.lnk :=
  ⟨rfl, .inl rfl, rfl, fun _ _ hp => by rw [h] at hp; cases hp⟩

variable {l : Lnk} {s : State}

/-- Nothing but the link is looked at. -/
theorem State.carries.congr {t : State} (h : s.carries l) (ht : t.lnk = s.lnk := by rfl) : t.carries l := by
  obtain ⟨hq, hh, hx, hw⟩ := h
  rw [← ht] at hq hh hx hw
  exact ⟨hq, hh, hx, hw⟩

theorem carries_stable (l : Lnk) : Stable (State.carries l) where
  take _ _ _ h := h.congr
  count _ _ h := h.congr
  stop _ _ _ h := h.congr
  words _ _ _ h := h.congr
  free _ _ _ h := h.congr
  release s h := by
    simp only [State.releaseLine]
    split
    · exact h
    · exact h.congr
  abort _ h := h.congr
  drop _ h := h.congr
  lanes _ h := h.congr
  fatal _ h := h.congr
  finish s d h := by
    simp only [State.finishRequest]
    split
    · split
      · exact ⟨h.requests, h.hold, h.tx, fun _ _ hp => by cases hp⟩
      · next hfull => exact ⟨h.requests, h.hold, h.tx, fun _ _ _ _ => Nat.le_of_not_lt hfull⟩
    · exact h
    · exact h

theorem carries_outside (l : Lnk) : Outside (State.carries l) :=
  (carries_stable l).outside fun _ _ _ _ h => h.congr

section
variable (h : s.carries l)
include h

/-- A reply more makes a buffer no emptier. -/
theorem carries_reply (r : Reply) : (s.reply r).carries l :=
  ⟨h.requests, h.hold, h.tx, fun p q hp hq => (h.waits p q hp hq).trans (by simp)⟩

theorem carries_readWord (id : TableId) (c : Nat) : (readWord id c s).1.carries l := by
  rw [readWord]
  split
  · exact h
  · exact (carries_stable l).occur _ _ _ _ h.congr
  · exact (carries_stable l).memoryFatal _ h.congr

omit h in
theorem carries_enterState {st : Inspection} (h : s.carries l) : (enterState st s).carries l :=
  (carries_stable l).enterState st s h.congr

/-! ### The procedures (R49, R173) -/

theorem carries_finishCalibration (r : CalRecord) (formed : List Formed) : (finishCalibration r formed s).carries l := by
  simp only [finishCalibration]
  exact unlessFaulted_keeps _ _ ((carries_stable l).post _ _ _ h.congr) carries_enterState

theorem carries_formBright {lines target : Nat} {cols : List Nat} {done : List Formed} {t : State}
    {formed : Option (List Formed)} (hf : formBright lines target cols done s = (t, formed)) : t.carries l := by
  induction cols generalizing done s with
  | nil => exact (Prod.mk.inj hf).1 ▸ h
  | cons c cols ih =>
    have hread := carries_readWord h .dark c
    simp only [formBright] at hf
    split at hf
    · next hr =>
      rw [hr] at hread
      exact (Prod.mk.inj hf).1 ▸ hread
    · next hr =>
      rw [hr] at hread
      split at hf
      · exact (Prod.mk.inj hf).1 ▸ hread
      · exact ih hread hf

theorem carries_completeCalibration (r : CalRecord) : (completeCalibration r s).carries l := by
  simp only [completeCalibration]
  split
  · exact carries_finishCalibration h.congr _ _
  · split
    · next hf => exact carries_finishCalibration (carries_formBright h.congr hf) _ _
    · next hf => exact carries_formBright h.congr hf

theorem carries_closeOne (id : Nat) : (closeOne s id).carries l := by
  refine unlessFaulted_keeps _ s h fun h => ?_
  split
  · exact unlessFaulted_keeps _ _ ((carries_stable l).readRecord id s h) ((carries_outside l).closeTrack id _ _ _)
  · exact h

theorem carries_closeAll : (closeAll s).carries l :=
  foldl_keeps (P := State.carries l) closeOne (fun _ id hu => carries_closeOne hu id) (List.range 64) s h

theorem carries_finishStop : (finishStop s).carries l := by
  have hclosed := carries_closeAll (s := s.slotsDiscarded) h.congr
  change ((closeAll s.slotsDiscarded).unlessFaulted _).carries l
  generalize closeAll s.slotsDiscarded = u at hclosed
  refine unlessFaulted_keeps _ _ hclosed fun h => ?_
  exact unlessFaulted_keeps _ _ (carries_enterState h.congr) ((carries_stable l).finish _ _)

theorem carries_finishProcedures : (finishProcedures s).carries l := by
  have hcal : (settleCalibration s).carries l := by
    rw [settleCalibration]
    split
    · split
      · exact carries_completeCalibration h _
      · exact h
    · exact h
  rw [finishProcedures, runStop]
  split
  · exact carries_finishStop hcal
  · exact hcal

end

/-! ### The requests that post, read or wait (Table LXVIII) -/

section
variable (h : s.carries l) (tag : Byte) (f : List Nat)
include h

theorem carries_handleStart : (handleStart tag s).carries l := by
  simp only [handleStart]
  split
  · exact carries_reply (carries_enterState h.congr) _
  · exact carries_reply h _

theorem carries_handleStop : (handleStop tag s).carries l := by
  rw [handleStop]
  split
  · next hr =>
    exact (carries_stable l).beginStop .request _ hr
      ⟨h.requests, h.hold, h.tx, fun p r hp hq => by cases hp; cases hq⟩
  · refine carries_reply ?_ _
    simp only [stopCalibration]
    exact unlessFaulted_keeps _ _ ((carries_stable l).abortCalibration s h) fun h => carries_enterState h.congr
  all_goals exact carries_reply h _

theorem carries_handleClearFault : (handleClearFault tag s).carries l := by
  refine carries_reply ?_ _
  split
  · exact carries_enterState h.congr
  · exact h

theorem carries_handleReset : (handleReset tag s).carries l :=
  have hdone := carries_reply h { tag := tag, body := .done .reset }
  ⟨hdone.requests, .inr rfl, hdone.tx, hdone.waits⟩

theorem carries_handleCalibrate : (handleCalibrate tag f s).carries l := by
  simp only [handleCalibrate]
  split
  · exact carries_reply h _
  · split
    · exact carries_reply (carries_enterState h.congr) _
    · exact carries_reply h _

theorem carries_handleSetHead : (handleSetHead tag f s).carries l := by
  simp only [handleSetHead]
  split
  · exact carries_reply h _
  · split
    · exact carries_reply (foldl_keeps _ (fun u id hu => (carries_stable l).returnToNormal id u hu) _ _
        h.congr) _
    · exact carries_reply h _

theorem carries_handleReadTable : (handleReadTable tag f s).carries l := by
  have page (id : TableId) (cols : List Nat) (p : PageRead) (hp : p.state.carries l) :
      (cols.foldl (readPageWord id) p).state.carries l := by
    induction cols generalizing p with
    | nil => exact hp
    | cons c cols ih =>
      refine ih _ ?_
      rw [readPageWord]
      split
      · exact hp
      · exact (carries_stable l).occur _ _ _ _ hp.congr
      · exact hp
  simp only [handleReadTable]
  split
  · exact carries_reply h _
  · split
    · refine carries_reply ?_ _
      split
      · exact page _ _ _ h
      · exact (carries_stable l).memoryFatal _ (page _ _ _ h).congr
    · exact carries_reply h _

theorem carries_handleReadTrack : (handleReadTrack tag f s).carries l := by
  have hread := (carries_stable l).readRecord (f.getD 0 0) s h
  simp only [handleReadTrack]
  repeat' split
  · exact carries_reply h _
  all_goals exact carries_reply hread _

theorem carries_handleReleaseTrack : (handleReleaseTrack tag f s).carries l := by
  have hread := (carries_stable l).readRecord (f.getD 0 0) s h
  simp only [handleReleaseTrack]
  repeat' split
  · exact carries_reply h _
  · exact carries_reply hread _
  · exact carries_reply hread.congr _
  · exact carries_reply hread _

theorem carries_handleListTracks : (handleListTracks tag s).carries l := by
  have hread := foldl_keeps readAny
    (fun u id hu => unlessFaulted_keeps _ u hu ((carries_stable l).readRecord id u)) (List.range 64) s h
  simp only [handleListTracks]
  split <;> exact carries_reply hread _

/-! ### READ_CLIP (R136 to R139) -/

theorem carries_readClipWord (blocks : List Nat) (offset : Nat) : (readClipWord blocks offset s).1.carries l := by
  simp only [readClipWord]
  split
  · exact h
  · exact (carries_stable l).occur _ _ _ _ h.congr
  · exact h

theorem carries_readClipWords (blocks : List Nat) (n offset : Nat) : (readClipWords blocks n offset s).1.carries l := by
  induction n generalizing offset s with
  | zero => exact h
  | succ n ih => exact ih (carries_readClipWord h blocks offset) (offset + 1)

omit h in
theorem carries_skip {w : ClipWalk} (h : w.state.carries l) (blocks : List Nat) : (w.skip blocks).state.carries l := by
  rw [ClipWalk.skip]
  split
  · exact h
  · next o _ =>
    have hread := carries_readClipWord h blocks (o + 2)
    split <;> next hr => rw [hr] at hread; exact hread

omit h in
theorem carries_read {w : ClipWalk} (h : w.state.carries l) (blocks : List Nat) (index : Nat) :
    (w.read blocks index).state.carries l := by
  rw [ClipWalk.read]
  split
  · exact h
  · next o _ =>
    have hhead := carries_readClipWord (carries_readClipWord (carries_readClipWord h blocks o) blocks (o + 1)) blocks (o + 2)
    dsimp only
    split
    · exact hhead
    · exact carries_readClipWords hhead blocks _ _

theorem carries_walkClip (clip : Clip) (first count : Nat) : (walkClip clip first count s).state.carries l := by
  have walk {α : Type} (step : ClipWalk → α → ClipWalk)
      (hstep : ∀ w a, w.state.carries l → (step w a).state.carries l) (as : List α) (w : ClipWalk)
      (hw : w.state.carries l) : (as.foldl step w).state.carries l := by
    induction as generalizing w with
    | nil => exact hw
    | cons a as ih => exact ih _ (hstep w a hw)
  simp only [walkClip]
  split
  · exact h
  · exact walk _ (fun w i hw => carries_read hw clip.blocks i) _ _
      (walk _ (fun w _ hw => carries_skip hw clip.blocks) _ _ h)

theorem carries_handleReadClip : (handleReadClip tag f s).carries l := by
  simp only [handleReadClip]
  repeat' split
  · exact carries_reply h _
  · exact carries_reply h _
  · have hwalk := carries_walkClip h (s.track (f.getD 0 0)).clip (f.getD 1 0) (f.getD 2 0)
    refine carries_reply ?_ _
    simp only [markDamaged]
    split
    · exact hwalk.congr
    · exact hwalk

/-! ### Every request -/

/-- A request's block leaves the link as R161 has it: a request that neither posts nor reads changes its settings and replies. -/
theorem carries_handle (r : Request) (p : List Byte) : (handle r tag p s).carries l := by
  cases r with
  | start => exact carries_handleStart h tag
  | stop => exact carries_handleStop h tag
  | clearFault => exact carries_handleClearFault h tag
  | reset => exact carries_handleReset h tag
  | calibrate => exact carries_handleCalibrate h tag _
  | setHead => exact carries_handleSetHead h tag _
  | readTable => exact carries_handleReadTable h tag _
  | readTrack => exact carries_handleReadTrack h tag _
  | releaseTrack => exact carries_handleReleaseTrack h tag _
  | listTracks => exact carries_handleListTracks h tag
  | readClip => exact carries_handleReadClip h tag _
  | ident => exact carries_reply h _
  | readStatus => exact carries_reply (s := clearRead s) h.congr _
  | splice => exact carries_reply (s := { s with enc := _ }) h.congr _
  | setEncoder | setSpot | setStreak | setClips | loadTable | setPriority | setFaultAction | setAttention | setLane
  | armLane | clearLane =>
    simp only [handle, handleSetEncoder, handleSetSpot, handleSetStreak, handleSetClips, handleLoadTable, handleSetPriority,
      handleSetFaultAction, handleSetAttention, handleSetLane, handleArmLane, handleClearLane]
    repeat' split
    all_goals exact carries_reply h.congr _

theorem carries_processFrame (fr : Frame) : (processFrame fr s).carries l := by
  simp only [processFrame]
  repeat' split
  · exact carries_reply h _
  · exact carries_reply h _
  · exact carries_handle h _ _ _
  · exact carries_reply h _

end

end Sys2Proof.Machine
end

section
/-! PROOFS. The procedures run out, the places of the reply buffer are given out, and the transmitter takes what waits: how every event
of a part out of reset ends. -/

namespace Sys2Proof.Machine

/-! ## The procedures leave none due (R49, R173) -/

/-- The inspection state is one in which nothing goes on. -/
def State.halted (s : State) : Prop := s.ict.state = .stopped ∨ s.ict.state = .faulted

theorem unlessFaulted_halted {f : State → State} (s : State) (h : ∀ u, (f u).halted) : (s.unlessFaulted f).halted := by
  unfold State.unlessFaulted
  split
  · next hf => exact .inr hf
  · exact h s

theorem finishRequest_ict (s : State) (d : Done) : (s.finishRequest d).ict = s.ict := by
  simp only [State.finishRequest]
  repeat' split
  all_goals rfl

theorem finishStop_halted (s : State) : (finishStop s).halted := by
  refine unlessFaulted_halted _ fun u => ?_
  have hentered : (enterState .stopped { u with lnc := u.lnc.map Lane.stopStep }).halted := enterState_ends (by decide) _
  change ((enterState .stopped { u with lnc := u.lnc.map Lane.stopStep }).unlessFaulted _).halted
  generalize enterState .stopped { u with lnc := u.lnc.map Lane.stopStep } = v at hentered
  unfold State.unlessFaulted
  split
  · exact hentered
  · rw [State.halted, finishRequest_ict]
    exact hentered

/-- A calibration that is due completes and a STOP procedure that can go on ends, and neither gives rise to the other. -/
theorem nothingDue_finishProcedures (s : State) : (finishProcedures s).nothingDue := by
  have hcal : (settleCalibration s).nothingDue ∨
      settleCalibration s = s ∧ ∀ r, s.ffc.record = some r → calibrationDue r s = false := by
    rw [settleCalibration]
    split
    · next r hr =>
      split
      · exact .inl (State.nothingDue_of_ended (completeCalibration_ends r s))
      · next hd => exact .inr ⟨rfl, fun q hq => by rw [hr] at hq; cases hq; exact Bool.eq_false_iff.mpr hd⟩
    · next hr => exact .inr ⟨rfl, fun q hq => by rw [hr] at hq; cases hq⟩
  rw [finishProcedures, runStop]
  split
  · exact State.nothingDue_of_ended (finishStop_halted _)
  · next hstop =>
    rcases hcal with h | ⟨he, hd⟩
    · exact h
    · rw [he] at hstop ⊢
      exact ⟨hstop, hd⟩

/-! ## What claims a place of the reply buffer (R160, R161) -/

/-- How many places of the reply buffer the link can come to want: one for each waiting frame, for the reply of the request in progress
and for the held REJECT. -/
def Lnk.claims (l : Lnk) : Nat :=
  l.requests.length + (l.inProgress.bind (·.reply)).toList.length + l.rejectHold.toList.length

theorem Lnk.claims_le (l : Lnk) : l.claims ≤ l.requests.length + 2 := by
  have (o : Option Reply) : o.toList.length ≤ 1 := by cases o <;> simp
  have hp := this (l.inProgress.bind (·.reply))
  have hh := this l.rejectHold
  unfold claims
  omega

/-- What claims a place: a reply that waits, or the head of the request queue behind no request in progress. -/
theorem Lnk.claimant_some {l : Lnk} {c : Claimant} (h : l.claimant = some c) :
    (∃ r, c = .inProgress r ∧ l.inProgress.bind (·.reply) = some r) ∨
      ∃ fr rest, c = .head fr rest ∧ l.requests = fr :: rest ∧ l.inProgress = none := by
  simp only [claimant] at h
  split at h
  · next hp => exact .inl ⟨_, (Option.some.inj h).symm, by rw [hp]; rfl⟩
  · cases h
  · next hp =>
    split at h
    · cases h
    · split at h
      · cases h
      · next hq => exact .inr ⟨_, _, (Option.some.inj h).symm, hq, hp⟩

/-- The part wants no free place of the reply buffer. -/
def State.unwanting (s : State) : Prop :=
  s.lnk.replies.length < Config.replyBufferSize → s.lnk.claimant = none ∧ s.lnk.rejectHold = none

theorem unwanting_of_claims {s : State} (h : s.lnk.claims = 0) : s.unwanting := by
  simp only [Lnk.claims, Nat.add_eq_zero_iff, List.length_eq_zero_iff, Option.toList_eq_nil_iff] at h
  obtain ⟨⟨hq, hp⟩, hh⟩ := h
  refine fun _ => ⟨Option.eq_none_iff_forall_not_mem.mpr fun c hc => ?_, hh⟩
  rcases Lnk.claimant_some hc with ⟨r, -, hr⟩ | ⟨fr, rest, -, hr, -⟩
  · rw [hp] at hr
    cases hr
  · rw [hq] at hr
    cases hr

/-! ### A place given to a claimant -/

/-- The part with the head of its request queue taken off. -/
def State.dequeued (s : State) (rest : List Frame) : State := { s with lnk := { s.lnk with requests := rest } }

theorem carries_grant_head {s : State} (h : s.lnk.inProgress = none) (fr : Frame) (rest : List Frame) :
    (grant (.head fr rest) s).carries (s.dequeued rest).lnk :=
  carries_finishProcedures (carries_processFrame (State.carries_self (s := s.dequeued rest) h) fr)

/-- A claimant that has been served wants no further place while one is free. -/
theorem claims_grant {s : State} {c : Claimant} (h : s.lnk.claimant = some c)
    (hl : (grant c s).lnk.replies.length < Config.replyBufferSize) : (grant c s).lnk.claims < s.lnk.claims := by
  rcases Lnk.claimant_some h with ⟨r, rfl, hr⟩ | ⟨fr, rest, rfl, hq, hp⟩
  · simp only [Lnk.claims, hr]
    exact Nat.add_lt_add_right (Nat.lt_succ_self _) _
  · obtain ⟨hrequests, hhold, -, hwaits⟩ := carries_grant_head hp fr rest
    have hreply : (grant (.head fr rest) s).lnk.inProgress.bind (·.reply) = none := by
      refine Option.bind_eq_none_iff.mpr fun p hp => Option.eq_none_iff_forall_not_mem.mpr fun q hq => ?_
      exact absurd hl (Nat.not_lt.mpr (hwaits p q hp hq))
    have hheld : (grant (.head fr rest) s).lnk.rejectHold.toList.length ≤ s.lnk.rejectHold.toList.length := by
      rcases hhold with hh | hh <;> rw [hh]
      · exact le_rfl
      · exact Nat.zero_le _
    simp only [Lnk.claims, hrequests, hreply, hq, hp, List.length_cons]
    simp only [State.dequeued, Option.bind_none, Option.toList_none, List.length_nil]
    omega

theorem claims_enterHeld {s : State} {r : Reply} (h : s.lnk.rejectHold = some r) :
    (enterHeld r s).lnk.claims < s.lnk.claims := by
  simp only [Lnk.claims, h]
  exact Nat.lt_succ_self _

/-! ### Places given out until none is free or none is wanted -/

/-- The cases of one place: none free, none wanted, or one given to a claimant or to the held REJECT, a choice counted at most. -/
theorem serve_succ_cases (n : Nat) (s : State) :
    (serve (n + 1) s = s ∧ s.unwanting) ∨
      s.lnk.replies.length < Config.replyBufferSize ∧ ∃ k, (∃ c, s.lnk.claimant = some c ∧ serve (n + 1) s = serve n (grant c { s with choices := k })) ∨
        ∃ r, s.lnk.rejectHold = some r ∧ serve (n + 1) s = serve n (enterHeld r { s with choices := k }) := by
  rw [serve]
  split
  · next hl =>
    split
    · next hh hc => exact .inl ⟨rfl, fun _ => ⟨hc, hh⟩⟩
    · next c hh hc => exact .inr ⟨hl, s.choices, .inl ⟨c, hc, rfl⟩⟩
    · next r hh hc => exact .inr ⟨hl, s.choices, .inr ⟨r, hh, rfl⟩⟩
    · next r c hh hc =>
      split
      · exact .inr ⟨hl, s.choices, .inr ⟨r, hh, rfl⟩⟩
      · split
        · exact .inr ⟨hl, _, .inl ⟨c, hc, rfl⟩⟩
        · exact .inr ⟨hl, _, .inr ⟨r, hh, rfl⟩⟩
  · next hl => exact .inl ⟨rfl, fun h => absurd h hl⟩

/-- With a turn for each place that can come to be wanted, no free place is wanted in the end. -/
theorem serve_unwanting (n : Nat) (s : State)
    (h : s.lnk.replies.length < Config.replyBufferSize → s.lnk.claims ≤ n) : (serve n s).unwanting := by
  induction n generalizing s with
  | zero => exact fun hl => unwanting_of_claims (Nat.le_zero.mp (h hl)) hl
  | succ n ih =>
    rcases serve_succ_cases n s with ⟨he, hs⟩ | ⟨hl, k, ⟨c, hc, he⟩ | ⟨r, hr, he⟩⟩
    · rw [he]
      exact hs
    · rw [he]
      exact ih _ fun hl' => Nat.le_of_lt_succ
        (Nat.lt_of_lt_of_le (claims_grant (s := { s with choices := k }) hc hl') (h hl))
    · rw [he]
      exact ih _ fun _ => Nat.le_of_lt_succ
        (Nat.lt_of_lt_of_le (claims_enterHeld (s := { s with choices := k }) hr) (h hl))

theorem serveAll_unwanting (s : State) : (serveAll s).unwanting :=
  serve_unwanting _ s fun _ => Nat.le_succ_of_le s.lnk.claims_le

/-- What each place given out keeps, all of them keep. -/
theorem serve_keeps {P : State → Prop} (hc : ∀ s k, P s → P { s with choices := k })
    (hg : ∀ c s, s.lnk.claimant = some c → P s → P (grant c s)) (hh : ∀ r s, P s → P (enterHeld r s)) (n : Nat) (s : State)
    (h : P s) : P (serve n s) := by
  induction n generalizing s with
  | zero => exact h
  | succ n ih =>
    rcases serve_succ_cases n s with ⟨he, -⟩ | ⟨-, k, ⟨c, hcl, he⟩ | ⟨r, -, he⟩⟩ <;> rw [he]
    · exact h
    · exact ih _ (hg c _ hcl (hc s k h))
    · exact ih _ (hh r _ (hc s k h))

theorem nothingDue_serveAll {s : State} (h : s.nothingDue) : (serveAll s).nothingDue :=
  serve_keeps (P := State.nothingDue) (fun _ _ h => State.nothingDue_congr h rfl rfl rfl rfl)
    (fun c _ _ h => by
      cases c with
      | inProgress r => exact State.nothingDue_congr h rfl rfl rfl rfl
      | head fr rest => exact nothingDue_finishProcedures _)
    (fun _ _ h => State.nothingDue_congr h rfl rfl rfl rfl) _ s h

/-- The places given out leave the transmitter alone. -/
theorem serveAll_tx (s : State) : (serveAll s).lnk.tx = s.lnk.tx :=
  serve_keeps (P := fun u => u.lnk.tx = s.lnk.tx) (fun _ _ h => h)
    (fun c u hc h => by
      rcases Lnk.claimant_some hc with ⟨r, rfl, -⟩ | ⟨fr, rest, rfl, -, hp⟩
      · exact h
      · exact (carries_grant_head hp fr rest).tx.trans h)
    (fun _ _ h => h) _ s rfl

/-! ## How an event ends (R165) -/

theorem nothingDue_sends {s : State} (h : s.nothingDue) : s.sends.nothingDue := by
  rcases s.sends_cases with he | ⟨n, ⟨r, rest, -, he⟩ | ⟨v, -, he⟩⟩ <;> rw [he]
  · exact h
  all_goals exact State.nothingDue_congr h rfl rfl rfl rfl

/-- An IDLE transmitter that begins no frame has none to send. -/
theorem sends_idle {s : State} (h : s.sends.lnk.tx = none) : s.sends = s ∧ s.lnk.replies = [] ∧ s.rpq.queue = [] := by
  have hcases : s.sends.lnk.tx ≠ none ∨ s.sends = s ∧ s.lnk.replies = [] ∧ s.rpq.offered = none := by
    unfold State.sends
    split
    · next htx => exact .inl (by rw [htx]; exact Option.some_ne_none _)
    · next hr hq => exact .inr ⟨rfl, hr, hq⟩
    · exact .inl (Option.some_ne_none _)
    · exact .inl (Option.some_ne_none _)
    · refine .inl ?_
      repeat' split
      all_goals exact Option.some_ne_none _
  obtain ⟨he, hr, hq⟩ := hcases.resolve_left (not_not_intro h)
  exact ⟨he, hr, (Rpq.offered_none _).mp hq⟩

/-- An event settles: no procedure is due, no free place of the reply buffer is wanted, and nothing waits for an IDLE transmitter. -/
theorem settle_atRest (s : State) (h : (settle s).hold = none) : (settle s).atRest := by
  have hsent : (serveAll (finishProcedures s)).sends.nothingDue :=
    nothingDue_sends (nothingDue_serveAll (nothingDue_finishProcedures s))
  refine ⟨h, nothingDue_serveAll hsent, serveAll_unwanting _, fun htx => ?_⟩
  have hserved : (serveAll (finishProcedures s)).unwanting := serveAll_unwanting _
  simp only [settle, serveAll_tx] at htx ⊢
  generalize serveAll (finishProcedures s) = u at htx hserved
  obtain ⟨he, hreplies, hqueue⟩ := sends_idle htx
  rw [he, serveAll_of_unwanted u hserved]
  exact ⟨hreplies, hqueue⟩

/-! ## The resets (R177) -/

/-- A reset leaves the part at rest, unless it stays held. -/
theorem resetAll_atRest (cause : ResetCause) (s : State) : (resetAll cause s).atRest :=
  ⟨rfl, State.nothingDue_of_ended (.inl rfl), fun _ => ⟨rfl, rfl⟩, fun _ => ⟨rfl, rfl⟩⟩

theorem inService_atRest {event : State → State} {s t : State} (h : inService event s = .next t) (ht : t.hold = none) :
    t.atRest := by
  obtain rfl := Host.Outcome.next.inj h
  split at ht
  · next hs => simp [ht] at hs
  · next hs =>
    rw [if_neg hs]
    exact settle_atRest _ ht

end Sys2Proof.Machine

namespace Sys2Proof.Correction

open Sys2Proof.Machine

/-- Settles O22: every command but a reset acts and then settles, and a reset that does not leave the part held leaves it at rest. -/
theorem eventsSettle : Obligations.EventsSettle := by
  intro s t c hx ht hend
  cases c with
  | powerOnReset =>
    obtain rfl := Host.Outcome.next.inj hx
    unfold powerOn at ht ⊢
    split
    · exact resetAll_atRest _ _
    · next hs => rw [hs] at ht; cases ht
  | pinResetAssert =>
    obtain rfl := Host.Outcome.next.inj hx
    unfold pinAssert at ht
    split at ht
    · cases ht
    · next hs => rw [hs] at ht; cases ht
  | pinResetEnd =>
    obtain rfl := Host.Outcome.next.inj hx
    unfold pinEnd
    split
    · next hs => exact absurd hs (hend rfl)
    · exact resetAll_atRest _ _
  | _ => exact inService_atRest hx ht

end Sys2Proof.Correction
end

section
/-! PROOFS. CALIBRATE: the checks of its fields, the reasons that stand against it, and the part as it enters CALIBRATING. -/

namespace Sys2Proof.Machine

/-- A listening part that has answered, with nothing due, rests. -/
theorem State.listening.rests_answered {s t : State} (h : s.listening) (hl : t.lnk = s.lnk) (hd : t.nothingDue) (tag : Byte)
    (b : ReplyBody) : (t.withReply tag b).rests := by
  obtain ⟨-, hj, hc⟩ := h.rests_withReply tag b
  refine ⟨State.nothingDue_congr hd rfl rfl rfl rfl, ?_, ?_⟩
  · simpa only [State.withReply, hl] using hj
  · simpa only [State.withReply, hl] using hc

/-! ## Readiness (R46) -/

/-- A table is INVALID when a page that the width needs is not in its set. -/
theorem Table.valid_eq_false_iff (t : Table) (width : Nat) :
    t.valid width = false ↔ ∃ p < 32, p * 256 < width ∧ p ∉ t.loaded := by
  simp [valid, neededPages]

theorem Las.enabledHeads_eq_nil_iff (l : Las) :
    l.enabledHeads = [] ↔ ∀ h < 4, (l.head h).settings.enabled = false := by
  simp [enabledHeads, List.filter_eq_nil_iff]

/-! ## The five fields (Table XIX) -/

/-- The fields that carry a calibration. -/
def calibrateFields (kind : CalKind) (mode : CalMode) (lines period target : Nat) : List Nat :=
  [if kind = .dark then 0 else 1, if mode = .apply then 0 else 1, lines, period, target]

/-- The record of a calibration that has taken no line (R47). -/
def CalRecord.new (kind : CalKind) (mode : CalMode) (lines period target : Nat) : CalRecord :=
  { kind := kind, mode := mode, lines := lines, period := period, target := target, taken := 0, missing := []
    closeOut := .notStarted }

theorem calRecordOf_fields (kind : CalKind) (mode : CalMode) (lines period target : Nat) :
    calRecordOf (calibrateFields kind mode lines period target) = .new kind mode lines period target := by
  cases kind <;> cases mode <;> rfl

/-- Values in their ranges fit their fields and pass their checks. -/
theorem calibrateFields_ok (kind : CalKind) (mode : CalMode) {lines period target : Nat} (hl : 1 ≤ lines ∧ lines ≤ 1024)
    (hp : 50 ≤ period ∧ period ≤ 10000) (ht : 64 ≤ target ∧ target ≤ 1023) :
    fitsWidths Request.calibrate.fieldWidths (calibrateFields kind mode lines period target) ∧
      allOk (calibrateChecks (calibrateFields kind mode lines period target)) := by
  have hk : (if kind = .dark then 0 else 1) ≤ 1 := by split <;> decide
  have hm : (if mode = .apply then 0 else 1) ≤ 1 := by split <;> decide
  refine ⟨⟨rfl, ?_⟩, ?_⟩
  · simp only [calibrateFields, Request.fieldWidths, List.zip_cons_cons, List.zip_nil_right, List.forall_mem_cons,
      List.not_mem_nil, false_imp_iff, implies_true, and_true]
    omega
  · simp [allOk, calibrateFields, calibrateChecks, inRange, isCode2, hk, hm, hl, hp, ht]

/-! ## How the request is answered (R46, R47) -/

theorem handle_calibrate {s : State} {f : List Nat} (tag : Byte) (hf : fitsWidths Request.calibrate.fieldWidths f) :
    handle .calibrate tag (fieldBytes Request.calibrate.fieldWidths f) s = handleCalibrate tag f s := by
  simp only [handle, readFields_fieldBytes hf]

section
variable {s : State} {f : List Nat} (tag : Byte) (hok : allOk (calibrateChecks f))
include hok

theorem handleCalibrate_refused (h : calibrateReasons (calRecordOf f).kind s ≠ []) :
    handleCalibrate tag f s =
      s.withReply tag (.refused 0x0A .notReady (reasonMask (calibrateReasons (calRecordOf f).kind s))) := by
  simp only [handleCalibrate, firstFailing_of_allOk hok, if_neg h]
  rfl

theorem handleCalibrate_taken (h : calibrateReasons (calRecordOf f).kind s = []) :
    handleCalibrate tag f s =
      (startCalibration (calRecordOf f) s).withReply tag (.done (.calibrate (calRecordOf f) s.las.width)) := by
  simp only [handleCalibrate, firstFailing_of_allOk hok, if_pos h]
  rfl

end

/-- The part with a new calibration's record, its sums empty and its line timer running (R8, R11, R47). -/
def State.calibrationBegun (s : State) (r : CalRecord) : State :=
  { s with
    ffc := { s.ffc with record := some r, active := true, sums := [] }
    enc := { s.enc with
      calExpiry := some (s.now + r.period * 10), calPeriod := r.period * 10, calRemaining := r.lines
      standstillExpiry := none }
    ict := { s.ict with state := .calibrating } }

theorem startCalibration_room (r : CalRecord) {s : State} (h : s.room .state) :
    startCalibration r s = (s.calibrationBegun r).withReport (.state .calibrating s.ict.lastStop) :=
  enterState_room { s with ffc := _, enc := _ } .calibrating h

/-- A calibration with lines to issue is not due. -/
theorem nothingDue_calibrationBegun (s : State) {r : CalRecord} (h : 1 ≤ r.lines) : (s.calibrationBegun r).nothingDue :=
  State.nothingDue_of_calibrating rfl fun _ _ => calibrationDue_of_remaining _ (Nat.ne_of_gt h)

end Sys2Proof.Machine

namespace Sys2Proof.Correction

open Sys2Proof.Machine

/-- Settles O41: refused as every request of STOPPED alone is, and with every field in range the reasons decide between the NOT_READY
refusal and the entry into CALIBRATING. -/
theorem calibrate : Obligations.Calibrate := by
  intro s tag h
  refine ⟨refusedAsStated_of_badValue h (by decide) _ tag fun f i hf hi => ?_, ?_⟩
  · rw [handle_calibrate tag hf, handleCalibrate,
      firstFailing_of_firstBad (ok := calibrateChecks f) (by simpa [calibrateChecks, inRange, isCode2] using hi)]
  · intro kind mode lines period target hs hl1 hl2 hp1 hp2 ht1 ht2 row r noHead darkInvalid
    obtain ⟨hfit, hok⟩ := calibrateFields_ok kind mode ⟨hl1, hl2⟩ ⟨hp1, hp2⟩ ⟨ht1, ht2⟩
    have hr : calRecordOf (calibrateFields kind mode lines period target) = r := calRecordOf_fields ..
    have run {t : State} (ht : handleCalibrate tag (calibrateFields kind mode lines period target) s = t) (hr : t.rests) :
        exec row s = .next t.sends :=
      exec_rowOf_handled h (by rw [hs]; rfl) (by decide) tag hfit ((handle_calibrate tag hfit).trans ht) hr
    have hhead : s.las.enabledHeads = [] ↔ noHead := s.las.enabledHeads_eq_nil_iff
    have hdark : kind = .bright ∧ s.ffc.dark.valid s.las.width = false ↔ darkInvalid := by
      rw [Table.valid_eq_false_iff]
    have hreasons : calibrateReasons r.kind s =
        (if s.las.enabledHeads = [] then [.noHead] else []) ++
          (if kind = .bright ∧ s.ffc.dark.valid s.las.width = false then [.darkInvalid] else []) := rfl
    have refused {reason : NotReady} (hre : calibrateReasons r.kind s = [reason]) :
        exec row s = .next (s.withReply tag (.refused 0x0A .notReady (reasonMask [reason]))).sends := by
      rw [← hr] at hre
      rw [← hre]
      exact run (handleCalibrate_refused tag hok (by rw [hre]; exact List.cons_ne_nil _ _)) (h.rests_withReply _ _)
    refine ⟨fun hn hd => ?_, fun hn hd => ?_, fun hn hd hroom => ?_⟩
    · exact refused (reason := .noHead) (by rw [hreasons, if_pos (hhead.mpr hn), if_neg (mt hdark.mp hd)]; rfl)
    · exact refused (reason := .darkInvalid) (by rw [hreasons, if_neg (mt hhead.mp hn), if_pos (hdark.mpr hd)]; rfl)
    · have hnone : calibrateReasons r.kind s = [] := by
        rw [hreasons, if_neg (mt hhead.mp hn), if_neg (mt hdark.mp hd)]
        rfl
      have htaken := handleCalibrate_taken tag hok (by rw [hr]; exact hnone)
      rw [hr, startCalibration_room r hroom] at htaken
      refine run htaken (h.rests_answered (t := (s.calibrationBegun r).withReport _) rfl ?_ _ _)
      exact State.nothingDue_congr (nothingDue_calibrationBegun s hl1) rfl rfl rfl rfl

end Sys2Proof.Correction
end

section
/-! PROOFS. Words written into a table and pages joined to its set; LOAD_TABLE. -/

namespace Sys2Proof.Machine

/-! ## The two tables of FFC -/

section
variable (f : Ffc) (id : TableId) (t : Table)

@[simp] theorem Ffc.table_setTable : (f.setTable id t).table id = t := by cases id <;> rfl

theorem Ffc.table_setTable_other {i : TableId} (h : i ≠ id) : (f.setTable id t).table i = f.table i := by
  match i, id, h with
  | .dark, .gain, _ => rfl
  | .gain, .dark, _ => rfl

@[simp] theorem Ffc.setTable_record : (f.setTable id t).record = f.record := by cases id <;> rfl
@[simp] theorem Ffc.setTable_active : (f.setTable id t).active = f.active := by cases id <;> rfl
@[simp] theorem Ffc.setTable_result : (f.setTable id t).result = f.result := by cases id <;> rfl
@[simp] theorem Ffc.setTable_sums : (f.setTable id t).sums = f.sums := by cases id <;> rfl
@[simp] theorem Ffc.setTable_lastBad : (f.setTable id t).lastBad = f.lastBad := by cases id <;> rfl

/-- A table's words are part of it alone. -/
theorem Ffc.word_congr {f g : Ffc} {i : TableId} (h : (g.table i).words = (f.table i).words) (c : Nat) :
    g.word i c = f.word i c := by
  simp only [word, h]

end

/-! ## Many words written (R42, R52) -/

/-- Values written one after another into the columns they stand with. -/
def Ffc.writes (f : Ffc) (id : TableId) (ws : List (Nat × Nat)) : Ffc := ws.foldl (fun f w => f.write id w.1 w.2) f

/-- Writing leaves everything but the table's words alone, and those in canonical form. -/
theorem Ffc.writes_eq (id : TableId) (ws : List (Nat × Nat)) {f : Ffc}
    (hw : Sparse.wf id.defaultWord (f.table id).words = true) :
    ∃ words, f.writes id ws = f.setTable id { f.table id with words := words } ∧ Sparse.wf id.defaultWord words = true := by
  induction ws generalizing f with
  | nil => exact ⟨_, by cases id <;> rfl, hw⟩
  | cons w ws ih =>
    obtain ⟨words, he, hwords⟩ := ih (f := f.write id w.1 w.2) (by rw [write, table_setTable]; exact Sparse.wf_set _ _ _ _ hw)
    refine ⟨words, ?_, hwords⟩
    rw [writes, List.foldl_cons]
    exact he.trans (by cases id <;> rfl)

section
variable {id : TableId} {ws : List (Nat × Nat)} {f : Ffc} (hw : Sparse.wf id.defaultWord (f.table id).words = true)
include hw

theorem Ffc.writes_word_other {t : TableId} {c : Nat} (h : t = id → c ∉ ws.map Prod.fst) :
    (f.writes id ws).word t c = f.word t c := by
  induction ws generalizing f with
  | nil => rfl
  | cons w ws ih =>
    have hrest := ih (f := f.write id w.1 w.2) (by rw [write, table_setTable]; exact Sparse.wf_set _ _ _ _ hw)
      fun ht hm => h ht (List.mem_cons_of_mem _ hm)
    refine hrest.trans ((Ffc.word_write hw _ _ t c).trans (if_neg fun ⟨ht, hc⟩ => ?_))
    exact h ht (by rw [hc]; exact List.mem_cons_self)

/-- Of columns none of which is named twice each holds its value with a right check. -/
theorem Ffc.writes_word {c v : Nat} (hn : (ws.map Prod.fst).Nodup) (h : (c, v) ∈ ws) :
    (f.writes id ws).word id c = { val := v, health := .good } := by
  induction ws generalizing f with
  | nil => cases h
  | cons w ws ih =>
    have hwf : Sparse.wf id.defaultWord ((f.write id w.1 w.2).table id).words = true := by
      rw [write, table_setTable]
      exact Sparse.wf_set _ _ _ _ hw
    obtain ⟨hfirst, hn⟩ := List.nodup_cons.mp hn
    rcases List.mem_cons.mp h with rfl | h
    · exact (Ffc.writes_word_other hwf fun _ => hfirst).trans ((Ffc.word_write hw _ _ id c).trans (if_pos ⟨rfl, rfl⟩))
    · exact ih hwf hn h

end

/-! ## Pages joined and locations forgotten (R40, R42) -/

theorem Ffc.joinPage_word (f : Ffc) (id : TableId) (page : Nat) (t : TableId) (c : Nat) :
    (f.joinPage id page).word t c = f.word t c := by
  cases id <;> cases t <;> rfl

theorem Ffc.mem_joinPage (f : Ffc) (id : TableId) (page : Nat) (t : TableId) (p : Nat) :
    p ∈ ((f.joinPage id page).table t).loaded ↔ p ∈ (f.table t).loaded ∨ (t = id ∧ p = page) := by
  by_cases ht : t = id
  · subst ht
    rw [joinPage, table_setTable, mem_insertRising]
    tauto
  · rw [joinPage, table_setTable_other f id _ ht]
    simp [ht]

theorem Ffc.forget_table (f : Ffc) (cond : Location → Bool) (t : TableId) : (f.forget cond).table t = f.table t := by
  cases t <;> rfl

/-- A table is VALID when every page that the width needs is in its set. -/
theorem Table.valid_eq_all (t : Table) (width : Nat) :
    t.valid width = (List.range 32).all (fun p => decide (p * 256 < width → p ∈ t.loaded)) := by
  simp only [valid, neededPages, List.all_filter]
  refine List.all_congr rfl fun p => ?_
  by_cases h : p * 256 < width <;> simp [h]

/-! ## When FFC's tables have changed alone -/

/-- The tables are no part of what makes a procedure due. -/
theorem State.nothingDue_withFfc {s : State} (h : s.nothingDue) {ffc : Ffc} (hr : ffc.record = s.ffc.record)
    (ha : ffc.active = s.ffc.active) : State.nothingDue { s with ffc := ffc } := by
  refine ⟨h.1, fun r hq => ?_⟩
  have hs := h.2 r (hr.symm.trans hq)
  simpa only [calibrationDue, ha] using hs

/-! ## LOAD_TABLE (R41, R42) -/

theorem TableId.ofCode_code (id : TableId) : TableId.ofCode id.code = some id := by cases id <;> rfl

theorem TableId.ofCode_none {n : Nat} (h : 1 < n) : TableId.ofCode n = none := by
  match n, h with
  | n + 2, _ => rfl

theorem TableId.ofCode_some {n : Nat} (h : n ≤ 1) : ∃ id, TableId.ofCode n = some id := by
  match n, h with
  | 0, _ => exact ⟨_, rfl⟩
  | 1, _ => exact ⟨_, rfl⟩

/-- FFC after the entries of a page have been loaded. -/
def Ffc.loadedPage (f : Ffc) (id : TableId) (page : Nat) (entries : List Nat) : Ffc :=
  ((f.writePage id page entries).joinPage id page).forget (fun l => l.table == id && l.page == page)

/-- The columns of a page with the entries loaded into them. -/
def pageWrites (page : Nat) (entries : List Nat) : List (Nat × Nat) := entries.zipIdx.map fun e => (page * 256 + e.2, e.1)

theorem Ffc.writePage_eq (f : Ffc) (id : TableId) (page : Nat) (entries : List Nat) :
    f.writePage id page entries = f.writes id (pageWrites page entries) := by
  simp only [writePage, writes, pageWrites, List.foldl_map]

theorem pageWrites_columns (page : Nat) (entries : List Nat) :
    (pageWrites page entries).map Prod.fst = (List.range entries.length).map (page * 256 + ·) := by
  have hindex : entries.zipIdx.map Prod.snd = List.range entries.length := by
    rw [List.zipIdx_map_snd, List.range_eq_range']
  rw [← hindex, pageWrites, List.map_map, List.map_map]
  rfl

section
variable {f : Ffc} {id : TableId} {page : Nat} {entries : List Nat}
  (hw : Sparse.wf id.defaultWord (f.table id).words = true) (hl : entries.length = 256)
include hw hl

/-- The words of the page hold the entries, and every other word is as it was. -/
theorem Ffc.loadedPage_word (t : TableId) (c : Nat) :
    (f.loadedPage id page entries).word t c =
      if t = id ∧ c / 256 = page then { val := entries.getD (c % 256) 0, health := .good } else f.word t c := by
  have hcols := pageWrites_columns page entries
  have hstep : (f.loadedPage id page entries).word t c = (f.writes id (pageWrites page entries)).word t c := by
    rw [loadedPage, ← f.writePage_eq, ← (f.writePage id page entries).joinPage_word id page]
    exact word_congr (congrArg Table.words (forget_table _ _ _)) c
  rw [hstep]
  split
  · next h =>
    obtain ⟨rfl, hc⟩ := h
    have hlt : c % 256 < entries.length := by rw [hl]; exact Nat.mod_lt _ (by decide)
    refine writes_word hw ?_ (List.mem_map.mpr ⟨(entries.getD (c % 256) 0, c % 256), ?_, ?_⟩)
    · rw [hcols]
      exact List.nodup_range.map fun a b e => Nat.add_left_cancel e
    · rw [List.mem_zipIdx_iff_getElem?]
      simp [List.getD, hlt]
    · exact Prod.ext (by dsimp only; omega) rfl
  · next h =>
    refine writes_word_other hw fun ht hm => h ⟨ht, ?_⟩
    rw [hcols, List.mem_map] at hm
    obtain ⟨i, hi, he⟩ := hm
    rw [List.mem_range, hl] at hi
    omega

omit hl in
/-- What a load leaves alone, and the set of pages it leaves. -/
theorem Ffc.loadedPage_frame :
    (∀ t p, p ∈ ((f.loadedPage id page entries).table t).loaded ↔ p ∈ (f.table t).loaded ∨ (t = id ∧ p = page)) ∧
      (f.loadedPage id page entries).lastBad = (match f.lastBad with
        | some l => if l.table = id ∧ l.page = page then none else some l
        | none => none) ∧
      (f.loadedPage id page entries).record = f.record ∧ (f.loadedPage id page entries).active = f.active ∧
      (f.loadedPage id page entries).result = f.result ∧ (f.loadedPage id page entries).sums = f.sums := by
  obtain ⟨words, he, -⟩ := writes_eq id (pageWrites page entries) hw
  rw [← f.writePage_eq] at he
  refine ⟨fun t p => ?_, ?_, ?_⟩
  · rw [loadedPage, forget_table, mem_joinPage, he]
    by_cases ht : t = id
    · subst ht
      rw [table_setTable]
    · rw [table_setTable_other _ _ _ ht]
  · simp only [loadedPage, forget, he, joinPage, setTable_lastBad, Bool.and_eq_true, beq_iff_eq] <;> rfl
  · simp [loadedPage, forget, he, joinPage]

end

/-- Fields of one width, their bytes one after another. -/
theorem fieldBytes_replicate (w : Nat) (vs : List Nat) :
    fieldBytes (List.replicate vs.length w) vs = vs.flatMap (leBytes w) := by
  induction vs with
  | nil => rfl
  | cons v vs ih =>
    rw [List.flatMap_cons, ← ih]
    rfl

theorem fitsWidths_replicate {w : Nat} {vs : List Nat} (h : ∀ v ∈ vs, v < 256 ^ w) :
    fitsWidths (List.replicate vs.length w) vs := by
  refine ⟨by simp, fun p hp => ?_⟩
  obtain ⟨hw, hv⟩ := List.of_mem_zip hp
  rw [List.eq_of_mem_replicate hw]
  exact h _ hv

/-- Two fields of one byte, the second of which may be lacking. -/
theorem readFields_first (a : Byte) (rest : List Byte) :
    readFields [1, 1] (a :: rest) = [a.toNat, leNat (rest.take 1)] := by
  simp [readFields, leNat]

theorem readFields_pair (a b : Byte) (rest : List Byte) : readFields [1, 1] (a :: b :: rest) = [a.toNat, b.toNat] := by
  simp [readFields, leNat]

/-- The payload of a load, with its length and the fields and entries it carries. -/
theorem loadPayload_read {id : TableId} {page : Nat} {entries : List Nat} (hp : page ≤ 31) (hl : entries.length = 256)
    (hv : ∀ v ∈ entries, v < 256 ^ entryWidth id) {payload : List Byte}
    (h : payload = BitVec.ofNat 8 id.code :: BitVec.ofNat 8 page :: entries.flatMap (leBytes (entryWidth id))) :
    payload.length ≤ Config.payloadLimit ∧ Request.loadTable.lengthOk payload = true ∧
      readFields Request.loadTable.fieldWidths payload = [id.code, page] ∧ tableEntries id payload = entries := by
  have hbytes : entries.flatMap (leBytes (entryWidth id)) = fieldBytes (List.replicate 256 (entryWidth id)) entries := by
    rw [← hl, fieldBytes_replicate]
  have hfits : fitsWidths (List.replicate 256 (entryWidth id)) entries := hl ▸ fitsWidths_replicate hv
  have hlen : (entries.flatMap (leBytes (entryWidth id))).length = 256 * entryWidth id := by
    rw [hbytes, fieldBytes_length hfits.1, List.sum_replicate, smul_eq_mul]
  subst h
  refine ⟨?_, ?_, ?_, ?_⟩
  · rw [List.length_cons, List.length_cons, hlen]
    cases id <;> decide
  · cases id with
    | dark => exact beq_iff_eq.mpr (congrArg (· + 1) hlen)
    | gain => exact beq_iff_eq.mpr (congrArg (· + 1) hlen)
  · have hpage : page % 256 = page := Nat.mod_eq_of_lt (by omega)
    have hcode : id.code % 256 = id.code := by cases id <;> rfl
    rw [show Request.loadTable.fieldWidths = [1, 1] from rfl, readFields_pair, BitVec.toNat_ofNat, BitVec.toNat_ofNat, hcode,
      hpage]
  · rw [tableEntries, List.drop_succ_cons, List.drop_succ_cons, List.drop_zero, hbytes, readFields_fieldBytes hfits]

theorem handle_loadTable (s : State) (tag : Byte) (payload : List Byte) :
    handle .loadTable tag payload s = handleLoadTable tag (readFields [1, 1] payload) payload s := rfl

theorem handleLoadTable_taken {s : State} (tag : Byte) {payload : List Byte} {id : TableId} {page : Nat} {entries : List Nat}
    (hp : page ≤ 31) (he : tableEntries id payload = entries) :
    handleLoadTable tag [id.code, page] payload s =
      State.withReply { s with ffc := s.ffc.loadedPage id page entries } tag
        (.done (.loadTable id page ((s.ffc.loadedPage id page entries).table id).loaded.length
          (((s.ffc.loadedPage id page entries).table id).valid s.las.width))) := by
  simp only [handleLoadTable, List.getD_cons_zero, List.getD_cons_succ, TableId.ofCode_code, if_pos hp, he]
  rfl

/-- The table field is checked before the page field. -/
theorem handleLoadTable_badValue (s : State) (tag : Byte) (payload : List Byte) (t p : Nat) :
    (1 < t → handleLoadTable tag [t, p] payload s = s.withReply tag (.refused 0x28 .badValue 0)) ∧
      (t ≤ 1 → 31 < p → handleLoadTable tag [t, p] payload s = s.withReply tag (.refused 0x28 .badValue 1)) := by
  refine ⟨fun ht => ?_, fun ht hp => ?_⟩
  · simp only [handleLoadTable, List.getD_cons_zero, TableId.ofCode_none ht]
    rfl
  · obtain ⟨id, hid⟩ := TableId.ofCode_some ht
    simp only [handleLoadTable, List.getD_cons_zero, List.getD_cons_succ, hid, if_neg (Nat.not_le.mpr hp)]
    rfl

end Sys2Proof.Machine

namespace Sys2Proof.Correction

open Sys2Proof.Machine

/-- Settles O39: the payload is read back as its table, page and entries, which are written, or one of the two fields is bad. -/
theorem loadTable : Obligations.LoadTable := by
  intro s tag h hs
  have hstate : refusedByState .loadTable s.ict.state = none := by rcases hs with hs | hs <;> rw [hs] <;> rfl
  have run {payload : List Byte} {t : State} (hp : payload.length ≤ Config.payloadLimit)
      (hl : Request.loadTable.lengthOk payload = true) (ht : handle .loadTable tag payload s = t) (hr : t.rests) :
      exec (.loadTable tag payload) s = .next t.sends :=
    exec_row_handled h .loadTable tag hp hstate hl ht hr
  refine ⟨fun id page entries hp hl hwf hv => ?_, fun table rest ht hr => ?_, fun table page rest hp hr => ?_⟩
  · obtain ⟨hlen, hok, hfields, hentries⟩ := loadPayload_read hp hl hv rfl
    have hw := wf_table_of_memoryWf hwf id
    obtain ⟨hpages, hbad, hrecord, hactive, hrest⟩ :=
      Ffc.loadedPage_frame (f := s.ffc) (page := page) (entries := entries) hw
    have htaken := (handle_loadTable s tag _).trans
      ((congrArg (handleLoadTable tag · _ s) hfields).trans (handleLoadTable_taken tag hp hentries))
    rw [Table.valid_eq_all] at htaken
    have hcode : (if id = .dark then 0 else 1) = id.code := by cases id <;> rfl
    have hwidth : (if id = .dark then 1 else 2) = entryWidth id := by cases id <;> rfl
    rw [hcode, hwidth]
    refine ⟨s.ffc.loadedPage id page entries, run hlen hok htaken ?_, Ffc.loadedPage_word hw hl, hpages, hbad, hrecord, hactive,
      hrest⟩
    exact h.rests_answered (t := { s with ffc := s.ffc.loadedPage id page entries }) rfl
      (State.nothingDue_withFfc h.1.2.1 hrecord hactive) _ _
  · refine run (by simpa [Config.payloadLimit] using hr) ?_ ?_ (h.rests_withReply _ _)
    · simp only [Request.lengthOk, if_neg (show ¬table.toNat = 0 by omega), if_neg (show ¬table.toNat = 1 by omega)]
    · exact (handle_loadTable s tag _).trans ((congrArg (handleLoadTable tag · _ s) (readFields_first table rest)).trans
        ((handleLoadTable_badValue s tag _ _ _).1 ht))
  · refine run ?_ ?_ ?_ (h.rests_withReply _ _)
    · rcases hr with ⟨-, hr⟩ | ⟨-, hr⟩ <;> simp [hr, Config.payloadLimit]
    · rcases hr with ⟨ht, hr⟩ | ⟨ht, hr⟩ <;> simp [Request.lengthOk, ht, hr]
    · exact (handle_loadTable s tag _).trans ((congrArg (handleLoadTable tag · _ s) (readFields_pair table page rest)).trans
        ((handleLoadTable_badValue s tag _ _ _).2 (by omega) hp))

end Sys2Proof.Correction
end

section
/-! PROOFS. READ_TABLE: the words of a page read one after another, all right or one of them wrong. -/

namespace Sys2Proof.Machine

/-! ## The words of a page (R43) -/

/-- The columns of a page, rising. -/
def pageColumns (page : Nat) : List Nat := (List.range 256).map (page * 256 + ·)

theorem map_pageColumns {α : Type} (page : Nat) (g : Nat → α) :
    (pageColumns page).map g = (List.range 256).map (fun i => g (page * 256 + i)) := by
  rw [pageColumns, List.map_map]
  rfl

/-- The columns of a page around one of them. -/
theorem pageColumns_split (page : Nat) {k : Nat} (hk : k < 256) :
    ∃ as bs, pageColumns page = as ++ (page * 256 + k) :: bs ∧
      (∀ c ∈ as, ∃ i < 256, i ≠ k ∧ c = page * 256 + i) ∧ ∀ c ∈ bs, ∃ i < 256, i ≠ k ∧ c = page * 256 + i := by
  obtain ⟨as, bs, hsplit⟩ := List.append_of_mem (List.mem_range.mpr hk)
  have hnd : (as ++ k :: bs).Nodup := hsplit ▸ List.nodup_range
  have hlt (i : Nat) (h : i ∈ as ++ k :: bs) : i < 256 := List.mem_range.mp (hsplit ▸ h)
  obtain ⟨-, hkb, hne⟩ := List.nodup_append.mp hnd
  refine ⟨as.map (page * 256 + ·), bs.map (page * 256 + ·), ?_, fun c hc => ?_, fun c hc => ?_⟩
  · rw [pageColumns, hsplit, List.map_append, List.map_cons]
  · obtain ⟨i, hi, rfl⟩ := List.mem_map.mp hc
    exact ⟨i, hlt i (by simp [hi]), hne i hi k List.mem_cons_self, rfl⟩
  · obtain ⟨i, hi, rfl⟩ := List.mem_map.mp hc
    exact ⟨i, hlt i (by simp [hi]), fun h => (List.nodup_cons.mp hkb).1 (h ▸ hi), rfl⟩

section
variable (id : TableId) {s : State} {c : Nat} (es bad : List Nat)

/-- Right words are returned as they are, and nothing else happens. -/
theorem readPage_good (cols : List Nat) (h : ∀ c ∈ cols, (s.ffc.word id c).health = .good) :
    cols.foldl (readPageWord id) { state := s, entries := es, bad := bad } =
      { state := s, entries := (cols.map (fun c => (s.ffc.word id c).val)).reverse ++ es, bad := bad } := by
  induction cols generalizing es with
  | nil => rfl
  | cons c cols ih =>
    have hread : readPageWord id { state := s, entries := es, bad := bad } c =
        { state := s, entries := (s.ffc.word id c).val :: es, bad := bad } := by
      simp only [readPageWord, h c List.mem_cons_self]
    rw [List.foldl_cons, hread, ih _ fun c hc => h c (List.mem_cons_of_mem _ hc)]
    simp

/-- A word with one wrong bit is returned corrected, and repaired. -/
theorem readPageWord_single (h : (s.ffc.word id c).health = .single) (ht : s.takes .memoryCorrected) :
    readPageWord id { state := s, entries := es, bad := bad } c =
      { state := s.repaired id c, entries := (s.ffc.word id c).val :: es, bad := bad } := by
  have hoccur := occur_of_takes { s with ffc := s.ffc.write id c (s.ffc.word id c).val } .memoryCorrected none none ht
  simp only [readPageWord, h, hoccur]
  rfl

/-- An uncorrectable word is returned as 0 and noted. -/
theorem readPageWord_double (h : (s.ffc.word id c).health = .double) :
    readPageWord id { state := s, entries := es, bad := bad } c = { state := s, entries := 0 :: es, bad := c :: bad } := by
  simp only [readPageWord, h]

end

section
variable {s : State} {id : TableId} {page k : Nat} (hk : k < 256)
  (hgood : ∀ i < 256, i ≠ k → (s.ffc.word id (page * 256 + i)).health = .good)
include hk hgood

/-- A page with one word that has one wrong bit. -/
theorem readPage_oneSingle (hw : Sparse.wf id.defaultWord (s.ffc.table id).words = true)
    (hs : (s.ffc.word id (page * 256 + k)).health = .single) (ht : s.takes .memoryCorrected) :
    (pageColumns page).foldl (readPageWord id) { state := s, entries := [], bad := [] } =
      { state := s.repaired id (page * 256 + k)
        entries := ((pageColumns page).map (fun c => (s.ffc.word id c).val)).reverse, bad := [] } := by
  obtain ⟨as, bs, hsplit, has, hbs⟩ := pageColumns_split page hk
  have hright (c : Nat) (h : ∃ i < 256, i ≠ k ∧ c = page * 256 + i) : (s.ffc.word id c).health = .good := by
    obtain ⟨i, hi, hne, rfl⟩ := h
    exact hgood i hi hne
  have hword := State.repaired_word (s := s) (k := page * 256 + k) hw id
  have hlater := readPage_good id (s := s.repaired id (page * 256 + k))
    ((s.ffc.word id (page * 256 + k)).val :: ((as.map (fun c => (s.ffc.word id c).val)).reverse ++ [])) [] bs
    fun c hc => (hword c).2 (.inl (hright c (hbs c hc)))
  simp only [fun c => (hword c).1] at hlater
  rw [hsplit, List.foldl_append, readPage_good id [] [] as fun c hc => hright c (has c hc), List.foldl_cons,
    readPageWord_single id _ _ hs ht, hlater]
  simp

/-- A page with one uncorrectable word. -/
theorem readPage_oneDouble (hs : (s.ffc.word id (page * 256 + k)).health = .double) :
    (pageColumns page).foldl (readPageWord id) { state := s, entries := [], bad := [] } =
      { state := s
        entries := ((pageColumns page).map
          (fun c => if c = page * 256 + k then 0 else (s.ffc.word id c).val)).reverse
        bad := [page * 256 + k] } := by
  obtain ⟨as, bs, hsplit, has, hbs⟩ := pageColumns_split page hk
  have hright (c : Nat) (h : ∃ i < 256, i ≠ k ∧ c = page * 256 + i) :
      c ≠ page * 256 + k ∧ (s.ffc.word id c).health = .good := by
    obtain ⟨i, hi, hne, rfl⟩ := h
    exact ⟨by omega, hgood i hi hne⟩
  have hsame (cols : List Nat) (h : ∀ c ∈ cols, ∃ i < 256, i ≠ k ∧ c = page * 256 + i) :
      cols.map (fun c => if c = page * 256 + k then 0 else (s.ffc.word id c).val) =
        cols.map (fun c => (s.ffc.word id c).val) :=
    List.map_congr_left fun c hc => if_neg (hright c (h c hc)).1
  rw [hsplit, List.foldl_append, readPage_good id [] [] as fun c hc => (hright c (has c hc)).2, List.foldl_cons,
    readPageWord_double id _ _ hs, readPage_good id _ _ bs fun c hc => (hright c (hbs c hc)).2, List.map_append,
    List.map_cons, hsame as has, hsame bs hbs, if_pos rfl]
  simp

end

/-! ## How the request is answered (R43, R45) -/

/-- FFC's tables and its last uncorrectable location. -/
def State.hasTables (dark gain : Table) (bad : Option Location) (s : State) : Prop :=
  s.ffc.dark = dark ∧ s.ffc.gain = gain ∧ s.ffc.lastBad = bad

/-- What becomes of FFC's tables is no part of a post. -/
theorem tables_stable (dark gain : Table) (bad : Option Location) : Stable (State.hasTables dark gain bad) where
  take _ _ _ h := h
  count _ _ h := h
  stop _ _ _ h := h
  words _ _ _ h := h
  free _ _ _ h := h
  release s h := by
    simp only [State.releaseLine]
    split <;> exact h
  abort _ h := h
  drop _ h := h
  lanes _ h := h
  fatal _ h := h
  finish s d h := by
    simp only [State.finishRequest]
    repeat' split
    all_goals exact h

/-- MEMORY_FATAL leaves FFC's tables and the last uncorrectable location alone. -/
theorem memoryFatal_tables (s : State) :
    (memoryFatal s).ffc.dark = s.ffc.dark ∧ (memoryFatal s).ffc.gain = s.ffc.gain ∧
      (memoryFatal s).ffc.lastBad = s.ffc.lastBad :=
  (tables_stable _ _ _).memoryFatal s ⟨rfl, rfl, rfl⟩

theorem Ffc.table_congr {f g : Ffc} (hd : g.dark = f.dark) (hg : g.gain = f.gain) (id : TableId) : g.table id = f.table id := by
  cases id
  · exact hd
  · exact hg

/-- After MEMORY_FATAL the table of the uncorrectable word has no page in its set. -/
theorem memoryFatal_strike_loaded (s : State) (id : TableId) (c : Nat) :
    ((memoryFatal { s with ffc := s.ffc.strike id c }).ffc.table id).loaded = [] := by
  obtain ⟨hd, hg, -⟩ := memoryFatal_tables { s with ffc := s.ffc.strike id c }
  rw [Ffc.table_congr hd hg]
  cases id <;> rfl

section
variable {s : State} (tag : Byte) {id : TableId} {page : Nat} {es : List Nat} {u : State} (hp : page ≤ 31)
include hp

theorem handleReadTable_right
    (h : (pageColumns page).foldl (readPageWord id) { state := s, entries := [], bad := [] } =
      { state := u, entries := es.reverse, bad := [] }) :
    handleReadTable tag [id.code, page] s =
      u.withReply tag (.done (.readTable id page (decide (page ∈ (u.ffc.table id).loaded)) 0 es)) := by
  rw [pageColumns] at h
  simp only [handleReadTable, List.getD_cons_zero, List.getD_cons_succ, TableId.ofCode_code, if_pos hp, h,
    List.reverse_reverse]
  rfl

theorem handleReadTable_fatal {c : Nat}
    (h : (pageColumns page).foldl (readPageWord id) { state := s, entries := [], bad := [] } =
      { state := u, entries := es.reverse, bad := [c] }) :
    handleReadTable tag [id.code, page] s =
      (memoryFatal { u with ffc := u.ffc.strike id c }).withReply tag (.done (.readTable id page false 1 es)) := by
  rw [pageColumns] at h
  simp only [handleReadTable, List.getD_cons_zero, List.getD_cons_succ, TableId.ofCode_code, if_pos hp, h,
    List.reverse_reverse, memoryFatal_strike_loaded]
  rfl

end

/-- The table field is checked before the page field. -/
theorem handleReadTable_badValue (s : State) (tag : Byte) (t p : Nat) :
    (1 < t → handleReadTable tag [t, p] s = s.withReply tag (.refused 0x29 .badValue 0)) ∧
      (t ≤ 1 → 31 < p → handleReadTable tag [t, p] s = s.withReply tag (.refused 0x29 .badValue 1)) := by
  refine ⟨fun ht => ?_, fun ht hp => ?_⟩
  · simp only [handleReadTable, List.getD_cons_zero, TableId.ofCode_none ht]
    rfl
  · obtain ⟨id, hid⟩ := TableId.ofCode_some ht
    simp only [handleReadTable, List.getD_cons_zero, List.getD_cons_succ, hid, if_neg (Nat.not_le.mpr hp)]
    rfl

end Sys2Proof.Machine

namespace Sys2Proof.Correction

open Sys2Proof.Machine

/-- Settles O40: the page is read word by word, and the one wrong word of a page decides how the request ends. -/
theorem readTable : Obligations.ReadTable := by
  intro s tag id page h hs row code
  have hcode : code = id.code := by cases id <;> rfl
  have run {t p : Nat} {u : State} (ht : t < 256) (hp : p < 256) (hu : handleReadTable tag [t, p] s = u) (hr : u.rests) :
      exec (row t p) s = .next u.sends := by
    have hf : fitsWidths Request.readTable.fieldWidths [t, p] := ⟨rfl, by simp [Request.fieldWidths, ht, hp]⟩
    have hstate : refusedByState .readTable s.ict.state = none := by
      cases he : s.ict.state with
      | faulted => exact absurd he hs
      | _ => rfl
    refine exec_rowOf_handled h hstate (by decide) tag hf ?_ hr
    simp only [handle, readFields_fieldBytes hf]
    exact hu
  have hlt : id.code < 256 := by cases id <;> decide
  have hle : id.code ≤ 1 := by cases id <;> decide
  rw [hcode]
  refine ⟨fun hp hgood => ?_, fun k hk hp hsingle hwf ht hgood => ?_, fun k hk hp hdouble hgood => ?_, fun t p ht1 ht2 hp => ?_,
    fun hp1 hp2 => ?_⟩
  · have hread := readPage_good id [] [] (s := s) (pageColumns page) fun c hc => by
      obtain ⟨i, hi, rfl⟩ := List.mem_map.mp hc
      exact hgood i (List.mem_range.mp hi)
    rw [List.append_nil, map_pageColumns] at hread
    exact run hlt (by omega) (handleReadTable_right tag hp hread) (h.rests_withReply _ _)
  · have hw := wf_table_of_memoryWf hwf id
    have hread := readPage_oneSingle hk hgood hw hsingle ht
    have hcorrected := Ffc.corrected_write hw (page * 256 + k)
    refine ⟨_, hcorrected, ?_⟩
    obtain ⟨-, hdark, hgain, -, hrecord, hactive, -⟩ := hcorrected
    rw [map_pageColumns] at hread
    have hdone := handleReadTable_right tag hp hread
    have hloaded : ((s.repaired id (page * 256 + k)).ffc.table id).loaded = (s.ffc.table id).loaded := by
      rw [State.repaired_ffc]
      cases id
      · exact hdark
      · exact hgain
    rw [hloaded] at hdone
    refine run hlt (by omega) hdone (h.rests_answered (t := s.repaired id (page * 256 + k)) ?_ ?_ _ _)
    · exact State.withOccurrence_lnk ..
    · exact State.nothingDue_withOccurrence (State.nothingDue_withFfc h.1.2.1 hrecord hactive) _ _ _
  · have hread := readPage_oneDouble hk hgood hdouble
    rw [map_pageColumns] at hread
    have hplace : locationOf id (page * 256 + k) = { table := id, page := page, index := k } := by
      have hdiv : (page * 256 + k) / 256 = page := by omega
      have hmod : (page * 256 + k) % 256 = k := by omega
      rw [locationOf, hdiv, hmod]
    have hfatal := handleReadTable_fatal tag hp hread
    rw [Ffc.strike, hplace] at hfatal
    simp only [Nat.add_left_cancel_iff] at hfatal
    refine run hlt (by omega) hfatal (h.rests_answered (t := memoryFatal _) ?_ ?_ _ _)
    · exact (lnk_stable h.1.2.2.2.1).memoryFatal _ rfl
    · exact State.nothingDue_of_ended (.inr (memoryFatal_shut _).1)
  · exact run ht2 hp ((handleReadTable_badValue s tag t p).1 ht1) (h.rests_withReply _ _)
  · exact run hlt hp2 ((handleReadTable_badValue s tag _ page).2 hle hp1) (h.rests_withReply _ _)

end Sys2Proof.Correction
end

section
/-! PROOFS. The completion of a calibration: the heads that are missing, the entries formed, what is written and what is reported; the
expiry of the close-out wait. -/

namespace Sys2Proof.Machine

/-! ## Slots discarded (R32) -/

section
variable (l : Las) (cond : Slot → Bool)

@[simp] theorem Las.headSettings_discardSlots : (l.discardSlots cond).headSettings = l.headSettings := by
  simp [headSettings, discardSlots, Function.comp_def]

@[simp] theorem Las.settings_discardSlots (h : Nat) : ((l.discardSlots cond).head h).settings = (l.head h).settings := by
  simp only [head, discardSlots, List.getD, List.getElem?_map]
  cases l.heads[h]? <;> rfl

@[simp] theorem Las.width_discardSlots : (l.discardSlots cond).width = l.width := by
  simp only [width, headSettings_discardSlots]

@[simp] theorem Las.enabledHeads_discardSlots : (l.discardSlots cond).enabledHeads = l.enabledHeads := by
  simp only [enabledHeads, settings_discardSlots]

@[simp] theorem Las.columnsOf_discardSlots : (l.discardSlots cond).columnsOf = l.columnsOf := by
  funext h
  simp only [columnsOf, base, headSettings_discardSlots, settings_discardSlots]

theorem Las.slot_discardSlots (hb : cond Slot.blank = false) (i : Nat) :
    (l.discardSlots cond).slot i = if cond (l.slot i) then Slot.blank else l.slot i := by
  by_cases hi : i < l.slots.length
  · simp [slot, discardSlots, List.getD, hi]
  · simp [slot, discardSlots, List.getD, hi, hb]

end

/-- A discard after one of fewer slots is the discard alone, for the deliveries. -/
theorem Delivery.discard_discard (d : Delivery) {gone after all : Nat → Bool} (h : ∀ j, gone j = true → all j = true)
    (ha : ∀ j, gone j = false → after j = all j) : (d.discard gone).discard after = d.discard all := by
  have slot (j : Nat) : gone j = true ∧ all j = true ∨ gone j = false ∧ after j = all j := by
    cases hg : gone j with
    | true => exact .inl ⟨rfl, h j hg⟩
    | false => exact .inr ⟨rfl, ha j hg⟩
  cases d with
  | idle => rfl
  | waiting t =>
    cases t with
    | dropped => rfl
    | slot j => rcases slot j with ⟨h1, h2⟩ | ⟨h1, h2⟩ <;> simp [discard, h1, h2]
  | receiving j p r => rcases slot j with ⟨h1, h2⟩ | ⟨h1, h2⟩ <;> simp [discard, h1, h2]
  | discarding t =>
    cases t with
    | none => rfl
    | some t =>
      cases t with
      | dropped => rfl
      | slot j => rcases slot j with ⟨h1, h2⟩ | ⟨h1, h2⟩ <;> simp [discard, h1, h2]

theorem Las.discardSlots_discardSlots (l : Las) {a b : Slot → Bool} (hab : ∀ sl, a sl = true → b sl = true)
    (hb : b Slot.blank = false) : (l.discardSlots a).discardSlots b = l.discardSlots b := by
  have ha : a Slot.blank = false := Bool.eq_false_iff.mpr fun h => by simp [hab _ h] at hb
  have hslots (sl : Slot) : (if b (if a sl then Slot.blank else sl) then Slot.blank else if a sl then Slot.blank else sl) =
      if b sl then Slot.blank else sl := by
    by_cases h : a sl = true
    · simp [h, hb, hab sl h]
    · simp [h]
  have hheads (h : Head) : (h.delivery.discard (fun j => a (l.slot j))).discard (fun j => b ((l.discardSlots a).slot j)) =
      h.delivery.discard (fun j => b (l.slot j)) :=
    h.delivery.discard_discard (fun j => hab _) fun j hj => by rw [l.slot_discardSlots a ha, hj]; rfl
  have hs : ((l.discardSlots a).discardSlots b).slots = (l.discardSlots b).slots := by
    simp only [discardSlots, List.map_map]
    exact List.map_congr_left fun sl _ => hslots sl
  have hh : ((l.discardSlots a).discardSlots b).heads = (l.discardSlots b).heads := by
    simp only [discardSlots, List.map_map]
    exact List.map_congr_left fun h _ => congrArg (fun d => ({ h with delivery := d } : Head)) (hheads h)
  have hl : (l.discardSlots a).discardSlots b =
      { l with slots := ((l.discardSlots a).discardSlots b).slots, heads := ((l.discardSlots a).discardSlots b).heads } := rfl
  rw [hl, hs, hh]
  rfl

/-! ## The missing heads (R49) -/

theorem insertRising_rising (n : Nat) {l : List Nat} (h : l.Pairwise (· < ·)) : (insertRising n l).Pairwise (· < ·) := by
  induction l with
  | nil => exact List.pairwise_singleton _ _
  | cons m l ih =>
    obtain ⟨hm, hl⟩ := List.pairwise_cons.mp h
    rw [insertRising]
    split
    · next hn => exact List.pairwise_cons.mpr ⟨fun k hk => by
        rcases List.mem_cons.mp hk with rfl | hk
        · exact hn
        · exact hn.trans (hm k hk), h⟩
    · split
      · exact h
      · next hlt hne =>
        refine List.pairwise_cons.mpr ⟨fun k hk => ?_, ih hl⟩
        rcases (mem_insertRising k n l).mp hk with rfl | hk
        · omega
        · exact hm k hk

theorem foldl_insertRising_rising (new : List Nat) {l : List Nat} (h : l.Pairwise (· < ·)) :
    (new.foldl (fun m h => insertRising h m) l).Pairwise (· < ·) := by
  induction new generalizing l with
  | nil => exact h
  | cons n new ih => exact ih (insertRising_rising n h)

/-- A rising list is known by its members. -/
theorem rising_eq {l m : List Nat} (hl : l.Pairwise (· < ·)) (hm : m.Pairwise (· < ·)) (h : ∀ n, n ∈ l ↔ n ∈ m) : l = m :=
  hl.eq_of_mem_iff hm h

theorem Las.enabledHeads_rising (l : Las) : l.enabledHeads.Pairwise (· < ·) := (List.pairwise_lt_range (n := 4)).filter _

/-- A head that a calibration slot still ASSEMBLING owes. -/
def State.owing (s : State) (h : Nat) : Prop :=
  ∃ sl ∈ s.las.slots, sl.state = .assembling ∧ sl.kind = .calibration ∧ h ∈ sl.owed

section
variable (r : CalRecord) (s : State)

theorem mem_missing_recordAtCompletion (ht : 0 < r.taken) (h : Nat) :
    h ∈ (recordAtCompletion r s).missing ↔ h ∈ r.missing ∨ s.owing h := by
  simp only [recordAtCompletion, if_neg (Nat.ne_of_gt ht), mem_foldl_insertRising, List.mem_flatMap, List.mem_filter,
    assemblingCalibration, Bool.and_eq_true, beq_iff_eq, State.owing, and_assoc]

theorem missing_recordAtCompletion_rising (h : r.missing.Pairwise (· < ·)) :
    (recordAtCompletion r s).missing.Pairwise (· < ·) := foldl_insertRising_rising _ h

/-- With no line taken every enabled head is missing. -/
theorem recordAtCompletion_untaken (ht : r.taken = 0) (hm : r.missing = []) :
    recordAtCompletion r s = { r with missing := s.las.enabledHeads } := by
  have hheads : s.las.enabledHeads.foldl (fun m h => insertRising h m) [] = s.las.enabledHeads :=
    rising_eq (foldl_insertRising_rising _ List.Pairwise.nil) s.las.enabledHeads_rising fun n => by
      simp [mem_foldl_insertRising]
  simp only [recordAtCompletion, if_pos ht, hm, hheads]

theorem mem_usedColumns {c : Nat} :
    c ∈ usedColumns r s ↔ ∃ h < 4, (s.las.head h).settings.enabled = true ∧ h ∉ r.missing ∧
      s.las.base h ≤ c ∧ c < s.las.base h + (s.las.head h).settings.count := by
  simp only [usedColumns, List.mem_flatMap, List.mem_filter, Las.mem_enabledHeads, Las.mem_columnsOf, Bool.not_eq_true',
    decide_eq_false_iff_not, and_assoc]

theorem nodup_usedColumns : (usedColumns r s).Nodup := s.las.nodup_columns _

end

/-! ## The entries formed (R50, R51) -/

/-- The mean of a column over the lines taken. -/
def State.meanAt (s : State) (r : CalRecord) (c : Nat) : Nat := columnMean (Sparse.get 0 s.ffc.sums c) r.taken

/-- What a calibration forms for a column. -/
def State.formedAt (s : State) (r : CalRecord) (c : Nat) : Formed :=
  match r.kind with
  | .dark => { column := c, entry := min (s.meanAt r c) 255, dead := false, hot := decide (255 < s.meanAt r c) }
  | .bright =>
    { column := c, entry := brightEntry r.target (s.meanAt r c) (s.ffc.word .dark c).val
      dead := decide (s.meanAt r c < (s.ffc.word .dark c).val + 8), hot := false }

theorem State.formedAt_dark {s : State} {r : CalRecord} (h : r.kind = .dark) (c : Nat) :
    s.formedAt r c =
      { column := c, entry := min (s.meanAt r c) 255, dead := false, hot := decide (255 < s.meanAt r c) } := by
  simp only [formedAt, h]

theorem State.formedAt_bright {s : State} {r : CalRecord} (h : r.kind = .bright) (c : Nat) :
    s.formedAt r c =
      { column := c, entry := brightEntry r.target (s.meanAt r c) (s.ffc.word .dark c).val
        dead := decide (s.meanAt r c < (s.ffc.word .dark c).val + 8), hot := false } := by
  simp only [formedAt, h]

@[simp] theorem State.formedAt_column (s : State) (r : CalRecord) (c : Nat) : (s.formedAt r c).column = c := by
  cases h : r.kind
  · rw [formedAt_dark h]
  · rw [formedAt_bright h]

/-- Columns whose dark words are right are taken one after another, and nothing else changes. -/
theorem formBright_good {s : State} {r : CalRecord} (hk : r.kind = .bright) (hs : s.ict.state ≠ .faulted) (as bs : List Nat)
    (done : List Formed) (h : ∀ c ∈ as, (s.ffc.word .dark c).health = .good) :
    formBright r.taken r.target (as ++ bs) done s =
      formBright r.taken r.target bs ((as.map (s.formedAt r)).reverse ++ done) s := by
  induction as generalizing done with
  | nil => rfl
  | cons c as ih =>
    have hstep : formBright r.taken r.target (c :: (as ++ bs)) done s =
        formBright r.taken r.target (as ++ bs) (s.formedAt r c :: done) s := by
      simp only [formBright, readWord_good (h c List.mem_cons_self), if_neg hs, State.formedAt_bright hk]
      rfl
    rw [List.cons_append, hstep, ih _ fun c hc => h c (List.mem_cons_of_mem _ hc)]
    simp

/-! ## The completion's steps -/

/-- The part as a completion begins, the record closed and the slots still ASSEMBLING discarded. -/
def State.completing (s : State) (r : CalRecord) : State :=
  { s with las := s.las.discardSlots assemblingCalibration, ffc := { s.ffc with record := some r } }

theorem usedColumns_completing (s : State) (q r : CalRecord) : usedColumns r (s.completing q) = usedColumns r s := by
  simp only [usedColumns, State.completing, Las.enabledHeads_discardSlots, Las.columnsOf_discardSlots]

section
variable {r : CalRecord} {s : State}

theorem completeCalibration_dark (hk : r.kind = .dark) :
    completeCalibration r s =
      finishCalibration (recordAtCompletion r s)
        (formDark s.ffc.sums r.taken (usedColumns (recordAtCompletion r s) s)) (s.completing (recordAtCompletion r s)) := by
  rw [← usedColumns_completing s (recordAtCompletion r s)]
  simp only [completeCalibration, show (recordAtCompletion r s).kind = .dark from hk]
  rfl

section
variable (hk : r.kind = .bright) {t : State}
include hk

theorem completeCalibration_bright {formed : List Formed}
    (h : formBright r.taken r.target (usedColumns (recordAtCompletion r s) s) [] (s.completing (recordAtCompletion r s)) =
      (t, some formed)) :
    completeCalibration r s = finishCalibration (recordAtCompletion r s) formed t := by
  rw [← usedColumns_completing s (recordAtCompletion r s)] at h
  unfold State.completing at h
  simp only [completeCalibration, show (recordAtCompletion r s).kind = .bright from hk,
    show (recordAtCompletion r s).taken = r.taken from rfl, show (recordAtCompletion r s).target = r.target from rfl, h]

theorem completeCalibration_abandoned
    (h : formBright r.taken r.target (usedColumns (recordAtCompletion r s) s) [] (s.completing (recordAtCompletion r s)) =
      (t, none)) :
    completeCalibration r s = t := by
  rw [← usedColumns_completing s (recordAtCompletion r s)] at h
  unfold State.completing at h
  simp only [completeCalibration, show (recordAtCompletion r s).kind = .bright from hk,
    show (recordAtCompletion r s).taken = r.taken from rfl, show (recordAtCompletion r s).target = r.target from rfl, h]

end

/-- With every dark word right that is read, the entries are formed and the calibration finishes. -/
theorem completeCalibration_formed
    (h : r.kind = .dark ∨
      s.ict.state ≠ .faulted ∧ ∀ c ∈ usedColumns (recordAtCompletion r s) s, (s.ffc.word .dark c).health = .good) :
    completeCalibration r s =
      finishCalibration (recordAtCompletion r s) ((usedColumns (recordAtCompletion r s) s).map (s.formedAt r))
        (s.completing (recordAtCompletion r s)) := by
  cases hk : r.kind with
  | dark =>
    rw [completeCalibration_dark hk]
    exact congrArg (finishCalibration _ · _) (List.map_congr_left fun c _ => (State.formedAt_dark hk c).symm)
  | bright =>
    obtain ⟨hs, hgood⟩ := h.resolve_left (by rw [hk]; decide)
    have hform := formBright_good (s := s.completing (recordAtCompletion r s)) hk hs
      (usedColumns (recordAtCompletion r s) s) [] [] hgood
    rw [List.append_nil, List.append_nil, formBright, List.reverse_reverse] at hform
    exact completeCalibration_bright hk hform

/-- With one of the dark words uncorrectable the completion ends in MEMORY_FATAL (R53). -/
theorem completeCalibration_fatal (hk : r.kind = .bright) (hs : s.ict.state ≠ .faulted) {k : Nat}
    (hm : k ∈ usedColumns (recordAtCompletion r s) s) (hd : (s.ffc.word .dark k).health = .double)
    (hgood : ∀ c ∈ usedColumns (recordAtCompletion r s) s, c ≠ k → (s.ffc.word .dark c).health = .good) :
    ∃ u, completeCalibration r s = memoryFatal u ∧ u.ffc.dark = { s.ffc.dark with loaded := [] } ∧
      u.ffc.gain = s.ffc.gain ∧ u.ffc.lastBad = some { table := .dark, page := k / 256, index := k % 256 } := by
  obtain ⟨as, bs, hsplit⟩ := List.append_of_mem hm
  have hnd := hsplit ▸ nodup_usedColumns (recordAtCompletion r s) s
  obtain ⟨-, -, hne⟩ := List.nodup_append.mp hnd
  have has : ∀ c ∈ as, (s.ffc.word .dark c).health = .good := fun c hc =>
    hgood c (by rw [hsplit]; exact List.mem_append_left _ hc) (hne c hc k List.mem_cons_self)
  let u := s.completing (recordAtCompletion r s)
  have hread : readWord .dark k u = (memoryFatal { u with ffc := u.ffc.struck .dark k }, none) := readWord_double hd
  have hform := formBright_good (s := u) hk hs as (k :: bs) [] has
  rw [← hsplit, formBright, hread] at hform
  exact ⟨_, completeCalibration_abandoned hk hform, rfl, rfl, rfl⟩

end

/-! ## What APPLY writes (R52) -/

theorem foldl_joinPage (id : TableId) (pages : List Nat) (f : Ffc) (t : TableId) :
    (∀ c, (pages.foldl (fun f p => f.joinPage id p) f).word t c = f.word t c) ∧
      ∀ p, p ∈ ((pages.foldl (fun f p => f.joinPage id p) f).table t).loaded ↔
        p ∈ (f.table t).loaded ∨ (t = id ∧ p ∈ pages) := by
  induction pages generalizing f with
  | nil => simp
  | cons q pages ih =>
    obtain ⟨hword, hpages⟩ := ih (f.joinPage id q)
    refine ⟨fun c => (hword c).trans (f.joinPage_word id q t c), fun p => ?_⟩
    rw [List.foldl_cons, hpages, f.mem_joinPage, List.mem_cons]
    tauto

theorem foldl_joinPage_other {id t : TableId} (h : t ≠ id) (pages : List Nat) (f : Ffc) :
    (pages.foldl (fun f p => f.joinPage id p) f).table t = f.table t := by
  induction pages generalizing f with
  | nil => rfl
  | cons q pages ih => exact (ih _).trans (Ffc.table_setTable_other _ _ _ h)

section
variable {f : Ffc} {id : TableId} {formed : List Formed} {width : Nat}
  (hw : Sparse.wf id.defaultWord (f.table id).words = true)

/-- The columns written and their entries. -/
def Formed.write (e : Formed) : Nat × Nat := (e.column, e.entry)

/-- The part of APPLY before any page joins: the entries are written and a location in one of their columns forgotten. -/
def Ffc.written (f : Ffc) (id : TableId) (formed : List Formed) : Ffc :=
  (f.writes id (formed.map Formed.write)).forget
    (fun l => l.table == id && formed.any (fun e => e.column == l.page * 256 + l.index))

theorem Ffc.apply_eq (complete : Bool) :
    f.apply id formed complete width =
      if complete then (neededPages width).foldl (fun f p => f.joinPage id p) (f.written id formed)
      else f.written id formed := by
  simp only [apply, written, writes, List.foldl_map]
  rfl

theorem Ffc.written_word (t : TableId) (c : Nat) :
    (f.written id formed).word t c = (f.writes id (formed.map Formed.write)).word t c :=
  word_congr (congrArg Table.words (forget_table _ _ _)) c

theorem Ffc.apply_word (complete : Bool) (t : TableId) (c : Nat) :
    (f.apply id formed complete width).word t c = (f.writes id (formed.map Formed.write)).word t c := by
  rw [apply_eq]
  split
  · rw [(foldl_joinPage id _ _ t).1, written_word]
  · rw [written_word]

include hw

theorem Ffc.written_table : ∃ words, (f.written id formed).table id = { f.table id with words := words } ∧
    ∀ t, t ≠ id → (f.written id formed).table t = f.table t := by
  obtain ⟨words, he, -⟩ := writes_eq id (formed.map Formed.write) hw
  refine ⟨words, ?_, fun t ht => ?_⟩
  · rw [written, forget_table, he, table_setTable]
  · rw [written, forget_table, he, table_setTable_other _ _ _ ht]

theorem Ffc.apply_other (complete : Bool) {t : TableId} (ht : t ≠ id) :
    (f.apply id formed complete width).table t = f.table t := by
  obtain ⟨-, -, hother⟩ := written_table (formed := formed) hw
  rw [apply_eq]
  split
  · rw [foldl_joinPage_other ht, hother t ht]
  · exact hother t ht

/-- The set of pages stands unless the result is COMPLETE, and then the needed pages join it. -/
theorem Ffc.apply_loaded :
    ((f.apply id formed false width).table id).loaded = (f.table id).loaded ∧
      ∀ p, p ∈ ((f.apply id formed true width).table id).loaded ↔
        p ∈ (f.table id).loaded ∨ (p < 32 ∧ p * 256 < width) := by
  obtain ⟨words, he, -⟩ := written_table (formed := formed) hw
  refine ⟨?_, fun p => ?_⟩
  · rw [apply_eq, if_neg Bool.false_ne_true, he]
  · rw [apply_eq, if_pos rfl, (foldl_joinPage id _ _ id).2, he]
    simp [neededPages]

end

theorem Ffc.forget_none (f : Ffc) (cond : Location → Bool) (h : ∀ l, cond l = false) : f.forget cond = f := by
  obtain ⟨_, _, _, _, _, _, bad⟩ := f
  cases bad with
  | none => rfl
  | some l => simp [forget, h l]

/-- With no entry and a result that is not COMPLETE nothing is written. -/
theorem Ffc.apply_nil (f : Ffc) (id : TableId) (width : Nat) : f.apply id [] false width = f := by
  rw [apply_eq, if_neg Bool.false_ne_true, written]
  exact forget_none f _ fun l => Bool.and_false _

/-! ## How a calibration finishes (R52, R54, R176) -/

/-- The result of a calibration that completes. -/
def CalRecord.outcome (r : CalRecord) : CalResult := if r.missing = [] then .complete else .incomplete

/-- FFC with the record closed and, under APPLY, the entries written. -/
def Ffc.finished (f : Ffc) (r : CalRecord) (formed : List Formed) (width : Nat) : Ffc :=
  match r.mode with
  | .apply => Ffc.apply { f with record := some r } r.kind.table formed (r.outcome == .complete) width
  | .measure => { f with record := some r }

/-- The CALIBRATION report of a calibration that completes. -/
def CalRecord.report (r : CalRecord) (formed : List Formed) : Report :=
  .calibration
    { kind := r.kind, mode := r.mode, result := r.outcome, linesUsed := r.taken
      dead := (formed.filter (·.dead)).length, hot := (formed.filter (·.hot)).length, missing := r.missing
      figures := match r.mode with
        | .apply => none
        | .measure => figuresOf formed }

/-- The part once its calibration is over, before any report. -/
def State.finished (s : State) (r : CalRecord) (formed : List Formed) : State :=
  State.leaveCalibration { s with ffc := s.ffc.finished r formed s.las.width } r.outcome

theorem finishCalibration_eq (r : CalRecord) (formed : List Formed) (s : State) :
    finishCalibration r formed s =
      (post (r.report formed) none (s.finished r formed)).unlessFaulted (enterState .stopped) := rfl

/-- The reports of a completion leave the tables as the entries have made them. -/
theorem finishCalibration_tables (r : CalRecord) (formed : List Formed) (s : State) (id : TableId) :
    (finishCalibration r formed s).ffc.table id = (s.ffc.finished r formed s.las.width).table id := by
  let u := s.finished r formed
  have hstable := tables_stable u.ffc.dark u.ffc.gain u.ffc.lastBad
  obtain ⟨hd, hg, -⟩ := unlessFaulted_keeps (enterState .stopped) _
    (hstable.post (r.report formed) none u ⟨rfl, rfl, rfl⟩)
    fun h => hstable.enterState .stopped _ h
  rw [finishCalibration_eq, Ffc.table_congr hd hg]
  cases id <;> rfl

/-- With room for its two reports a completion ends in STOPPED. -/
theorem finishCalibration_room (r : CalRecord) (formed : List Formed) {s : State} (hs : s.ict.state ≠ .faulted)
    (hroom : s.rpq.queue.length + 2 ≤ 128) (hc : 0 < s.rpq.priorityOf .calibration) (ht : 0 < s.rpq.priorityOf .state) :
    finishCalibration r formed s =
      State.withReport
        { (s.finished r formed).withReport (r.report formed) with ict := { s.ict with state := .stopped } }
        (.state .stopped s.ict.lastStop) := by
  have hposted : post (r.report formed) none (s.finished r formed) = (s.finished r formed).withReport (r.report formed) :=
    post_room (s.finished r formed) (r.report formed) none ⟨show s.rpq.queue.length < 128 by omega, hc⟩
  rw [finishCalibration_eq, hposted]
  refine (unlessFaulted_eq (s := (s.finished r formed).withReport _) hs).trans ?_
  refine enterState_room ((s.finished r formed).withReport _) .stopped ⟨?_, ht⟩
  simp only [State.withReport, Rpq.enter, List.length_append, List.length_cons, List.length_nil]
  exact Nat.lt_of_succ_le hroom

/-! ## The expiry of the close-out wait (R49) -/

/-- The part after the expiry of the close-out wait of a record. -/
def State.waitExpired (s : State) (t : Nat) (r : CalRecord) : State :=
  { s with now := max s.now t, ffc := { s.ffc with record := some { r with closeOut := .expired } } }

section
variable {s : State} {t : Nat} {r : CalRecord}

theorem closeOutExpiry_running (hrec : s.ffc.record = some r) (hr : r.closeOut = .running t) (ha : s.ffc.active = true) :
    closeOutExpiry s = s.waitExpired t r := by
  simp only [closeOutExpiry, hrec, hr, ha, if_true]
  rfl

/-- A COMPLETE calibration slot bars the completion. -/
theorem calibrationDue_of_complete {sl : Slot} (hm : sl ∈ s.las.slots) (hst : sl.state = .complete)
    (hk : sl.kind = .calibration) (q : CalRecord) : calibrationDue q s = false := by
  have : s.las.slots.all (fun sl => !(sl.state == .complete && sl.kind == .calibration)) = false :=
    List.all_eq_false.mpr ⟨sl, hm, by simp [hst, hk]⟩
  simp only [calibrationDue, this, Bool.and_false, Bool.false_and]

/-- Once the wait has expired the other conditions of R49 make the calibration due. -/
theorem calibrationDue_of_expired {q : CalRecord} (hq : q.closeOut = .expired) (ha : s.ffc.active = true)
    (hs : s.ict.state = .calibrating) (hc : s.enc.calRemaining = 0) (hp : s.las.processing = none)
    (hn : ∀ sl ∈ s.las.slots, ¬(sl.state = .complete ∧ sl.kind = .calibration)) : calibrationDue q s = true := by
  have hall : s.las.slots.all (fun sl => !(sl.state == .complete && sl.kind == .calibration)) = true :=
    List.all_eq_true.mpr fun sl hm => by simpa [imp_iff_not_or] using hn sl hm
  simp only [calibrationDue, hq, ha, hs, hc, hp, hall]
  simp

end

/-! ## A completion that no line has reached -/

section
variable (r : CalRecord) (s : State)

/-- With every enabled head missing no column is used. -/
theorem usedColumns_allMissing : usedColumns { r with missing := s.las.enabledHeads } s = [] := by
  refine List.flatMap_eq_nil_iff.mpr fun h hm => ?_
  simp at hm

theorem CalRecord.report_nil :
    r.report [] = .calibration
      { kind := r.kind, mode := r.mode, result := r.outcome, linesUsed := r.taken, dead := 0, hot := 0
        missing := r.missing, figures := none } := by
  unfold report
  cases r.mode <;> rfl

theorem Ffc.finished_nil (f : Ffc) (hm : r.missing ≠ []) (width : Nat) :
    f.finished r [] width = { f with record := some r } := by
  rw [finished, CalRecord.outcome, if_neg hm]
  split
  · exact apply_nil _ _ _
  · rfl

/-- The part after a calibration that no line has reached, before its reports. -/
def State.calibrationVoid (s : State) (r : CalRecord) : State :=
  { s with
    ffc := { s.ffc with record := some r, active := false, result := some .incomplete }
    las := s.las.discardSlots (fun sl => sl.state ≠ .free && sl.kind == .calibration)
    enc := s.enc.leaveCalibrating s.now
    ict := { s.ict with state := .stopped } }

/-- Every enabled head is missing, the result is INCOMPLETE and no entry is formed (R49, R52, R54). -/
theorem completeCalibration_untaken (h0 : r.taken = 0) (hm : r.missing = []) (hheads : s.las.enabledHeads ≠ [])
    (hs : s.ict.state ≠ .faulted) (hroom : s.rpq.queue.length + 2 ≤ 128) (hc : 0 < s.rpq.priorityOf .calibration)
    (ht : 0 < s.rpq.priorityOf .state) :
    completeCalibration r s =
      State.withReport
        ((s.calibrationVoid { r with missing := s.las.enabledHeads }).withReport
          (.calibration
            { kind := r.kind, mode := r.mode, result := .incomplete, linesUsed := 0, dead := 0, hot := 0
              missing := s.las.enabledHeads, figures := none }))
        (.state .stopped s.ict.lastStop) := by
  let q : CalRecord := { r with missing := s.las.enabledHeads }
  have hq : recordAtCompletion r s = q := recordAtCompletion_untaken r s h0 hm
  have hformed := completeCalibration_formed (r := r) (s := s)
    (.inr ⟨hs, by rw [hq, usedColumns_allMissing]; exact fun _ hn => absurd hn List.not_mem_nil⟩)
  rw [hq, usedColumns_allMissing, List.map_nil, finishCalibration_room q [] (s := s.completing q) hs hroom hc ht,
    State.finished, Ffc.finished_nil q _ hheads, q.report_nil, show q.outcome = .incomplete from if_neg hheads,
    show q.taken = 0 from h0] at hformed
  have hassembling (sl : Slot) (hsl : assemblingCalibration sl = true) :
      (sl.state ≠ .free && sl.kind == .calibration) = true := by
    simp only [assemblingCalibration, Bool.and_eq_true, beq_iff_eq] at hsl
    simp [hsl]
  have hlas : (s.completing q).las.discardSlots (fun sl => sl.state ≠ .free && sl.kind == .calibration) =
      s.las.discardSlots (fun sl => sl.state ≠ .free && sl.kind == .calibration) :=
    s.las.discardSlots_discardSlots hassembling rfl
  rw [hformed, State.leaveCalibration, hlas]
  rfl

end

end Sys2Proof.Machine

namespace Sys2Proof.Correction

open Sys2Proof.Machine

/-- Settles O30: a COMPLETE slot bars the completion; else it follows in the same event, and with no line taken every enabled head is
missing and no entry is formed. -/
theorem closeOutWait : Obligations.CloseOutWait := by
  intro s t r h ha hrec hr
  have hexpired : closeOutExpiry s = s.waitExpired t r := closeOutExpiry_running hrec hr ha
  have hfinished (hs : s.ict.state = .calibrating) (hc : s.enc.calRemaining = 0) (hp : s.las.processing = none)
      (hn : ∀ sl ∈ s.las.slots, ¬(sl.state = .complete ∧ sl.kind = .calibration)) :
      finishProcedures (s.waitExpired t r) = completeCalibration { r with closeOut := .expired } (s.waitExpired t r) :=
    finishProcedures_due rfl (calibrationDue_of_expired (s := s.waitExpired t r) rfl ha hs hc hp hn)
  refine ⟨fun ⟨sl, hm, hst, hk⟩ => ?_, fun hs hc hp hn hlnk => ?_, fun hs hc hp hn h0 hm hheads hroom hcal hstate => ?_⟩
  · refine inService_of_unposted _ h hexpired rfl rfl ⟨h.2.1.1, fun q _ => ?_⟩
    exact calibrationDue_of_complete (s := s.waitExpired t r) hm hst hk q
  · exact inService_of_finished _ h hexpired (hfinished hs hc hp hn) (completeCalibration_lnk _ hlnk rfl)
      (State.nothingDue_of_ended (completeCalibration_ends _ _))
  · have hnf : (s.waitExpired t r).ict.state ≠ .faulted := by
      rw [show (s.waitExpired t r).ict.state = .calibrating from hs]
      decide
    have hvoid := completeCalibration_untaken { r with closeOut := .expired } (s.waitExpired t r) h0 hm hheads hnf hroom hcal
      hstate
    exact inService_of_finished _ h hexpired ((hfinished hs hc hp hn).trans hvoid) rfl (State.nothingDue_of_ended (.inl rfl))

end Sys2Proof.Correction
end

section
/-! PROOFS. What a completion writes into the tables and reports, column by column. -/

namespace Sys2Proof.Machine

/-! ## The columns written (R52) -/

theorem columns_formed (s : State) (r : CalRecord) (cols : List Nat) :
    ((cols.map (s.formedAt r)).map Formed.write).map Prod.fst = cols := by
  rw [List.map_map, List.map_map]
  exact (List.map_congr_left fun c _ => s.formedAt_column r c).trans cols.map_id

section
variable {f : Ffc} {id : TableId} (s : State) (r : CalRecord) {cols : List Nat} {c : Nat}
  (hw : Sparse.wf id.defaultWord (f.table id).words = true) (complete : Bool) (width : Nat)
include hw

theorem Ffc.apply_formed (hn : cols.Nodup) (h : c ∈ cols) :
    (f.apply id (cols.map (s.formedAt r)) complete width).word id c = { val := (s.formedAt r c).entry, health := .good } := by
  rw [apply_word]
  refine writes_word hw (by rwa [columns_formed]) (List.mem_map.mpr ⟨s.formedAt r c, List.mem_map_of_mem h, ?_⟩)
  exact Prod.ext (s.formedAt_column r c) rfl

theorem Ffc.apply_unformed (h : c ∉ cols) :
    (f.apply id (cols.map (s.formedAt r)) complete width).word id c = f.word id c := by
  rw [apply_word]
  exact writes_word_other hw fun _ => by rwa [columns_formed]

end

/-! ## The tables after a completion (R50 to R52) -/

section
variable {r : CalRecord} {s : State}

/-- The columns a completion uses. -/
def State.completionColumns (s : State) (r : CalRecord) : List Nat := usedColumns (recordAtCompletion r s) s

/-- Every dark word that a completion reads is right. -/
def State.formable (s : State) (r : CalRecord) : Prop :=
  r.kind = .dark ∨ s.ict.state ≠ .faulted ∧ ∀ c ∈ s.completionColumns r, (s.ffc.word .dark c).health = .good

theorem completing_table (s : State) (q : CalRecord) (id : TableId) : (s.completing q).ffc.table id = s.ffc.table id := by
  cases id <;> rfl

theorem completion_tables (h : s.formable r) (id : TableId) :
    (completeCalibration r s).ffc.table id =
      ((s.completing (recordAtCompletion r s)).ffc.finished (recordAtCompletion r s)
        ((s.completionColumns r).map (s.formedAt r)) s.las.width).table id := by
  rw [completeCalibration_formed h, finishCalibration_tables, State.completing, Las.width_discardSlots]
  rfl

/-- MEASURE writes neither table. -/
theorem completion_measures (h : s.formable r) (hm : r.mode = .measure) (id : TableId) :
    (completeCalibration r s).ffc.table id = s.ffc.table id := by
  rw [completion_tables h, Ffc.finished, show (recordAtCompletion r s).mode = .measure from hm]
  cases id <;> rfl

variable (h : s.formable r) (hm : r.mode = .apply)
include h hm

theorem completion_applies (id : TableId) :
    (completeCalibration r s).ffc.table id =
      (Ffc.apply (s.completing (recordAtCompletion r s)).ffc r.kind.table ((s.completionColumns r).map (s.formedAt r))
        ((recordAtCompletion r s).outcome == .complete) s.las.width).table id := by
  rw [completion_tables h, Ffc.finished, show (recordAtCompletion r s).mode = .apply from hm]
  rfl

variable (hw : s.memoryWf = true)
include hw

omit h hm in
theorem completing_wf (q : CalRecord) (id : TableId) :
    Sparse.wf id.defaultWord ((s.completing q).ffc.table id).words = true := by
  rw [completing_table]
  exact wf_table_of_memoryWf hw id

/-- The word of each column used holds the entry formed with a right check, and every other word is as it was. -/
theorem completion_word (c : Nat) :
    (c ∈ s.completionColumns r →
      (completeCalibration r s).ffc.word r.kind.table c = { val := (s.formedAt r c).entry, health := .good }) ∧
    (c ∉ s.completionColumns r → (completeCalibration r s).ffc.word r.kind.table c = s.ffc.word r.kind.table c) := by
  have hwf := completing_wf hw (recordAtCompletion r s) r.kind.table
  have hword := Ffc.word_congr (congrArg Table.words (completion_applies h hm r.kind.table)) c
  refine ⟨fun hc => hword.trans (Ffc.apply_formed s r hwf _ _ (nodup_usedColumns _ _) hc), fun hc => ?_⟩
  exact (hword.trans (Ffc.apply_unformed s r hwf _ _ hc)).trans
    (Ffc.word_congr (congrArg Table.words (completing_table s _ _)) c)

theorem completion_other {id : TableId} (hid : id ≠ r.kind.table) :
    (completeCalibration r s).ffc.table id = s.ffc.table id := by
  rw [completion_applies h hm, Ffc.apply_other (completing_wf hw _ _) _ hid, completing_table]

/-- The needed pages join the set when no head is missing, and otherwise it stands. -/
theorem completion_loaded :
    ((recordAtCompletion r s).missing ≠ [] →
      ((completeCalibration r s).ffc.table r.kind.table).loaded = (s.ffc.table r.kind.table).loaded) ∧
    ((recordAtCompletion r s).missing = [] → ∀ p, p ∈ ((completeCalibration r s).ffc.table r.kind.table).loaded ↔
      p ∈ (s.ffc.table r.kind.table).loaded ∨ (p < 32 ∧ p * 256 < s.las.width)) := by
  obtain ⟨hno, hall⟩ := Ffc.apply_loaded (formed := (s.completionColumns r).map (s.formedAt r)) (width := s.las.width)
    (completing_wf hw (recordAtCompletion r s) r.kind.table)
  rw [completing_table] at hno hall
  rw [completion_applies h hm]
  refine ⟨fun hmissing => ?_, fun hmissing => ?_⟩
  · rw [CalRecord.outcome, if_neg hmissing]
    exact hno
  · rw [CalRecord.outcome, if_pos hmissing]
    exact hall

end

/-! ## What a completion reports (R54) -/

theorem State.entry_dark {s : State} {r : CalRecord} (h : r.kind = .dark) (c : Nat) :
    (s.formedAt r c).entry = min (s.meanAt r c) 255 := by rw [formedAt_dark h]

theorem State.entry_bright {s : State} {r : CalRecord} (h : r.kind = .bright) (c : Nat) :
    (s.formedAt r c).entry = brightEntry r.target (s.meanAt r c) (s.ffc.word .dark c).val := by rw [formedAt_bright h]

/-- The figures of a report: for MEASURE the least entry, the mean and the greatest entry, when there is one (R52). -/
def figuresUnder (mode : CalMode) (entries : List Nat) : Option (Nat × Nat × Nat) :=
  match mode, entries with
  | .apply, _ => none
  | .measure, [] => none
  | .measure, e :: es => some (es.foldl min e, (entries.sum + entries.length / 2) / entries.length, es.foldl max e)

/-- The dead columns of a calibration, which BRIGHT alone has (R51). -/
def State.deadCount (s : State) (r : CalRecord) (cols : List Nat) : Nat :=
  match r.kind with
  | .dark => 0
  | .bright => (cols.filter (fun c => decide (s.meanAt r c < (s.ffc.word .dark c).val + 8))).length

/-- The hot columns of a calibration, which DARK alone has (R50). -/
def State.hotCount (s : State) (r : CalRecord) (cols : List Nat) : Nat :=
  match r.kind with
  | .dark => (cols.filter (fun c => decide (255 < s.meanAt r c))).length
  | .bright => 0

/-- The report of a completion from the entries formed. -/
theorem report_formed (s : State) (r q : CalRecord) (cols : List Nat) :
    q.report (cols.map (s.formedAt r)) = .calibration
      { kind := q.kind, mode := q.mode, result := q.outcome, linesUsed := q.taken, dead := s.deadCount r cols
        hot := s.hotCount r cols, missing := q.missing
        figures := figuresUnder q.mode (cols.map (fun c => (s.formedAt r c).entry)) } := by
  have hdead : ((cols.map (s.formedAt r)).filter (·.dead)).length = s.deadCount r cols := by
    rw [List.filter_map, List.length_map, State.deadCount]
    cases hk : r.kind with
    | dark => simp [Function.comp_def, State.formedAt_dark hk]
    | bright => simp [Function.comp_def, State.formedAt_bright hk]
  have hhot : ((cols.map (s.formedAt r)).filter (·.hot)).length = s.hotCount r cols := by
    rw [List.filter_map, List.length_map, State.hotCount]
    cases hk : r.kind with
    | dark => simp [Function.comp_def, State.formedAt_dark hk]
    | bright => simp [Function.comp_def, State.formedAt_bright hk]
  have hmap : (cols.map (s.formedAt r)).map (·.entry) = cols.map (fun c => (s.formedAt r c).entry) := List.map_map
  rw [← hmap, CalRecord.report, hdead, hhot, figuresOf]
  generalize (cols.map (s.formedAt r)).map (·.entry) = entries
  cases q.mode <;> cases entries <;> rfl

/-- With room for its two reports a completion whose entries are formed ends in STOPPED with its result. -/
theorem completion_ends {r : CalRecord} {s : State} (h : s.formable r) (hs : s.ict.state ≠ .faulted)
    (hroom : s.rpq.queue.length + 2 ≤ 128) (hc : 0 < s.rpq.priorityOf .calibration) (ht : 0 < s.rpq.priorityOf .state) :
    (completeCalibration r s).ict.state = .stopped ∧ (completeCalibration r s).ffc.active = false ∧
      (completeCalibration r s).ffc.result = some (recordAtCompletion r s).outcome ∧
      (completeCalibration r s).rpq =
        ((s.withReport ((recordAtCompletion r s).report ((s.completionColumns r).map (s.formedAt r)))).withReport
          (.state .stopped s.ict.lastStop)).rpq := by
  have hdone := (completeCalibration_formed h).trans
    (finishCalibration_room (recordAtCompletion r s) _ (s := s.completing (recordAtCompletion r s)) hs hroom hc ht)
  rw [hdone]
  exact ⟨rfl, rfl, rfl, rfl⟩

end Sys2Proof.Machine

namespace Sys2Proof.Correction

open Sys2Proof.Machine

/-- Settles O38: the record's missing heads decide which columns are used; with their dark words right every entry is formed, and written
under APPLY; one uncorrectable dark word ends in MEMORY_FATAL; and with room the two reports enter. -/
theorem darkCalibrationWrites : Obligations.DarkCalibrationWrites := by
  refine ⟨?_, ?_⟩
  · intro s r hwf hk hm h0 missing t used
    have hmissing (h : Nat) : h ∈ (recordAtCompletion r s).missing ↔ missing h := mem_missing_recordAtCompletion r s h0 h
    have hused (c : Nat) : c ∈ s.completionColumns r ↔ used c := by
      simp only [State.completionColumns, mem_usedColumns, hmissing, used]
    have hform : s.formable r := .inl hk
    have hword := completion_word hform hm hwf
    have hloaded := completion_loaded hform hm hwf
    have hother := completion_other hform hm hwf (id := .gain) (by rw [hk]; decide)
    rw [hk] at hword hloaded
    refine ⟨fun c hc => ?_, fun c hc => (hword c).2 (mt (hused c).mp hc), hother, fun ⟨h, hh⟩ => ?_, fun hn => ?_⟩
    · exact ((hword c).1 ((hused c).mpr hc)).trans (by rw [State.entry_dark hk]; rfl)
    · exact hloaded.1 fun he => by simpa [he] using (hmissing h).mpr hh
    · exact hloaded.2 (List.eq_nil_iff_forall_not_mem.mpr fun h hh => hn h ((hmissing h).mp hh))
  · intro s r missing hwf hs h0 hr hmissing hmem t cols mean dark entry entries result
    have hrecord : (recordAtCompletion r s).missing = missing :=
      rising_eq (missing_recordAtCompletion_rising r s hr) hmissing fun h =>
        (mem_missing_recordAtCompletion r s h0 h).trans (hmem h).symm
    have hcols : s.completionColumns r = cols := by
      rw [State.completionColumns, usedColumns, hrecord, Las.enabledHeads, List.filter_filter]
      exact congrArg (List.flatMap _) (List.filter_congr fun h _ => Bool.and_comm _ _)
    have hentry (c : Nat) : (s.formedAt r c).entry = entry c := by
      cases hk : r.kind with
      | dark => simp only [State.entry_dark hk, entry, hk] <;> rfl
      | bright => simp only [State.entry_bright hk, entry, hk] <;> rfl
    have hnf : s.ict.state ≠ .faulted := by rw [hs]; decide
    refine ⟨fun hk hm hgood => ?_, fun k hkc hk hd hgood => ?_, fun hgood hroom hc ht => ?_⟩
    · have hform : s.formable r := .inr ⟨hnf, by rwa [hcols]⟩
      have hword := completion_word hform hm hwf
      have hloaded := completion_loaded hform hm hwf
      have hother := completion_other hform hm hwf (id := .dark) (by rw [hk]; decide)
      rw [hk, hcols] at hword
      rw [hk, hrecord] at hloaded
      refine ⟨fun c hc => ?_, fun c hc => (hword c).2 hc, hother, hloaded⟩
      rw [← hentry]
      exact (hword c).1 hc
    · obtain ⟨u, hu, hdark, hgain, hbad⟩ := completeCalibration_fatal hk hnf (by rw [← hcols] at hkc; exact hkc) hd
        (by rw [← hcols] at hgood; exact hgood)
      obtain ⟨hd', hg', hb'⟩ := memoryFatal_tables u
      have ht : t = memoryFatal u := hu
      rw [ht]
      exact ⟨(memoryFatal_shut u).1, hg'.trans hgain, hd'.trans hdark, hb'.trans hbad⟩
    · have hform : s.formable r := hgood.imp_right fun hgood => ⟨hnf, by rwa [hcols]⟩
      obtain ⟨hstopped, hactive, hresult, hrpq⟩ := completion_ends hform hnf hroom hc ht
      have houtcome : (recordAtCompletion r s).outcome = result := by rw [CalRecord.outcome, hrecord]
      have hentries : cols.map (fun c => (s.formedAt r c).entry) = entries := List.map_congr_left fun c _ => hentry c
      rw [report_formed, houtcome, hrecord, hcols, hentries] at hrpq
      rw [houtcome] at hresult
      exact ⟨fun hm => ⟨completion_measures hform hm .dark, completion_measures hform hm .gain⟩, hstopped, hactive, hresult, hrpq⟩

end Sys2Proof.Correction
end

section
/-! PROOFS. SET_LANE, CLEAR_LANE and ARM_LANE: when they are taken, the checks of SET_LANE, and Table XXV. -/

namespace Sys2Proof.Machine

/-! ## A request on the lane table (Table LXVII) -/

/-- The requests that write the lane table. -/
def laneRequests : List Request := [.setLane, .clearLane, .armLane]

/-- FAULTED alone bars them. -/
theorem refusedByState_laneRequests {r : Request} (h : r ∈ laneRequests) :
    refusedByState r .faulted = some .faulted ∧ ∀ st, st ≠ .faulted → refusedByState r st = none := by
  simp only [laneRequests, List.mem_cons, List.not_mem_nil, or_false] at h
  refine ⟨by rcases h with rfl | rfl | rfl <;> rfl, fun st hst => ?_⟩
  cases st with
  | faulted => exact absurd rfl hst
  | _ => rcases h with rfl | rfl | rfl <;> rfl

theorem ne_loadTable_of_laneRequests {r : Request} (h : r ∈ laneRequests) : r ≠ .loadTable := by
  rintro rfl
  exact absurd h (by decide)

section
variable {s : State} (h : s.listening) {r : Request} (hr : r ∈ laneRequests) (tag : Byte) {f : List Nat}
  (hf : fitsWidths r.fieldWidths f)
include h hr hf

theorem exec_laneRequest_faulted (hs : s.ict.state = .faulted) :
    exec (rowOf r tag f) s = .next (s.withReply tag (.refused r.code .faulted 0)).sends := by
  have hlen : (fieldBytes r.fieldWidths f).length ≤ Config.payloadLimit := by
    rw [fieldBytes_length hf.1]
    exact fieldWidths_sum_le r
  exact exec_row_refusedByState h r tag hlen (by rw [hs]; exact (refusedByState_laneRequests hr).1)

/-- Outside FAULTED the request goes to LNC, and is over once LNC has answered it. -/
theorem exec_laneRequest (hs : s.ict.state ≠ .faulted) {lnc : List Lane} {b : ReplyBody}
    (ht : handle r tag (fieldBytes r.fieldWidths f) s = State.withReply { s with lnc := lnc } tag b) :
    exec (rowOf r tag f) s = .next (State.withReply { s with lnc := lnc } tag b).sends :=
  exec_rowOf_handled h ((refusedByState_laneRequests hr).2 _ hs) (ne_loadTable_of_laneRequests hr) tag hf ht
    (h.rests_answered rfl (State.nothingDue_congr h.rests.1 rfl rfl rfl rfl) tag b)

end

/-- The armed flag: any state but DISARMED, or a pending ARM (R61). -/
theorem Lane.armed_iff (l : Lane) : l.armed = true ↔ l.state ≠ .disarmed ∨ l.change = .arm := by
  simp only [Lane.armed]
  cases l.state <;> simp

/-! ## SET_LANE (R57, R58) -/

/-- The eleven fields that carry the settings of a lane, after the lane's own. -/
def LaneSettings.fields (c : LaneSettings) : List Nat :=
  [c.first, c.last, c.guard, c.lo, c.hi, c.bare, c.enter, c.leave, c.leadGuard, c.lengthMin, c.lengthMax]

/-- No other configured lane overlaps the range. -/
theorem not_overlapsAnother (s : State) (i : Nat) (c : LaneSettings) :
    (!overlapsAnother s i c) = (List.range 16).all (fun j => j == i ||
      match (lane s j).settings with
      | some o => decide (¬(o.first ≤ c.first ∧ c.first ≤ o.last) ∧ ¬(c.first ≤ o.last ∧ o.first ≤ c.last))
      | none => true) := by
  rw [overlapsAnother, List.not_any_eq_all_not]
  congr 1
  funext j
  have hother : (!decide (j ≠ i)) = (j == i) := by by_cases h : j = i <;> simp [h]
  rw [Bool.not_and, hother]
  cases (lane s j).settings with
  | none => rfl
  | some o => simp only [LaneSettings.overlaps, Bool.not_or, Bool.decide_and, decide_not]

/-- The checks of SET_LANE, as Table XXIV states their ranges. -/
theorem setLaneChecks_eq {s : State} {i : Nat} {c : LaneSettings} {apart : Bool} (h : (!overlapsAnother s i c) = apart) :
    setLaneChecks s i c =
      [decide (c.first < s.las.width) && apart, decide (c.first ≤ c.last ∧ c.last < s.las.width),
       decide (c.guard ≤ 255 ∧ c.first + 2 * c.guard + 16 ≤ c.last + 1), decide (c.lo ≤ 1022),
       decide (c.lo < c.hi ∧ c.hi ≤ 1023), decide (c.hi < c.bare ∧ c.bare ≤ 1023),
       decide (1 ≤ c.enter ∧ c.enter ≤ 255), decide (1 ≤ c.leave ∧ c.leave ≤ 255), decide (c.leadGuard ≤ 4095),
       decide (c.lengthMin ≤ 16777215),
       decide (c.lengthMax = 0 ∨ (1 ≤ c.lengthMax ∧ c.lengthMin ≤ c.lengthMax ∧ c.lengthMax ≤ 16777215))] := by
  have hguard : 16 + 2 * c.guard ≤ c.last + 1 - c.first ↔ c.first + 2 * c.guard + 16 ≤ c.last + 1 := by omega
  simp only [setLaneChecks, h, inRange, Config.top24, hguard, ← Bool.decide_and, ← Bool.decide_or, Nat.zero_le, true_and,
    Nat.succ_le_iff, max_le_iff, and_assoc]

section
variable {s : State} (tag : Byte) {i : Nat} (c : LaneSettings)

theorem handleSetLane_high (hi : 15 < i) : handleSetLane tag (i :: c.fields) s = s.badValue tag .setLane 0 := if_pos hi

theorem handleSetLane_armed (hi : i ≤ 15) (ha : (lane s i).armed = true) :
    handleSetLane tag (i :: c.fields) s = s.refuse tag Request.setLane.code .busy 0 :=
  (if_neg (Nat.not_lt.mpr hi)).trans (if_pos ha)

/-- A lane that is not armed is checked and loaded. -/
theorem handleSetLane_disarmed (hi : i ≤ 15) (ha : ¬(lane s i).armed = true) :
    handleSetLane tag (i :: c.fields) s =
      match firstFailing (setLaneChecks s i c) with
      | some n => s.badValue tag .setLane (n + 1)
      | none => (s.setLane i { Lane.reset with settings := some c }).done tag (.setLane i c c.effectiveWidth) :=
  (if_neg (Nat.not_lt.mpr hi)).trans (if_neg ha)

end

/-! ## CLEAR_LANE (R59) -/

section
variable {s : State} (tag : Byte) {i : Nat}

theorem handleClearLane_high (hi : 15 < i) : handleClearLane tag [i] s = s.badValue tag .clearLane 0 := if_pos hi

theorem handleClearLane_armed (hi : i ≤ 15) (ha : (lane s i).armed = true) :
    handleClearLane tag [i] s = s.refuse tag Request.clearLane.code .busy 0 :=
  (if_neg (Nat.not_lt.mpr hi)).trans (if_pos ha)

theorem handleClearLane_disarmed (hi : i ≤ 15) (ha : ¬(lane s i).armed = true) :
    handleClearLane tag [i] s =
      State.done (if (lane s i).settings.isSome then s.setLane i Lane.reset else s) tag
        (.clearLane i (lane s i).settings.isSome) :=
  (if_neg (Nat.not_lt.mpr hi)).trans (if_neg ha)

end

/-! ## ARM_LANE (R60, R61) -/

section
variable {s : State} (tag : Byte) {i setting : Nat}

theorem handleArmLane_high (hi : 15 < i) : handleArmLane tag [i, setting] s = s.badValue tag .armLane 0 := if_pos hi

theorem handleArmLane_setting (hi : i ≤ 15) (hs : 1 < setting) :
    handleArmLane tag [i, setting] s = s.badValue tag .armLane 1 :=
  (if_neg (Nat.not_lt.mpr hi)).trans (if_pos hs)

theorem handleArmLane_unconfigured (hi : i ≤ 15) (hs : setting = 1) (hc : (lane s i).settings = none) :
    handleArmLane tag [i, setting] s = s.withReply tag (.refused 0x19 .notReady 16) :=
  (if_neg (Nat.not_lt.mpr hi)).trans
    ((if_neg (show ¬1 < setting by omega)).trans (if_pos (show setting = 1 ∧ (lane s i).settings = none from ⟨hs, hc⟩)))

/-- What Table XXV makes of a lane depends on its state and its pending change as found. -/
theorem Lane.arm_found {l : Lane} {a : LaneState} {b : LaneChange} (ha : l.state = a) (hb : l.change = b) (on : Bool)
    (st : Inspection) : l.arm on st = ({ l with state := a, change := b } : Lane).arm on st := by
  subst ha hb
  rfl

/-- An accepted ARM_LANE loads what Table XXV makes of the lane, and answers with it. -/
theorem handleArmLane_taken (hi : i ≤ 15) (hs : setting ≤ 1) (hc : setting = 1 → (lane s i).settings ≠ none) :
    handleArmLane tag [i, setting] s =
      (let l := (lane s i).arm (setting = 1) s.ict.state
       State.withReply { s with lnc := s.lnc.set i l } tag (.done (.armLane i l.armed l.state l.change))) :=
  (if_neg (Nat.not_lt.mpr hi)).trans
    ((if_neg (Nat.not_lt.mpr hs)).trans (if_neg (show ¬(setting = 1 ∧ (lane s i).settings = none) from fun h => hc h.1 h.2)))

end

end Sys2Proof.Machine

namespace Sys2Proof.Lanes

open Sys2Proof.Machine

/-- Settles O42: the lane's number, the armed flag and the eleven checks decide, in this order, how SET_LANE is answered. -/
theorem setLane : Obligations.SetLane := by
  intro s tag i c h hs fields row apart ok armed hf
  have run {lnc : List Lane} {b : ReplyBody}
      (ht : handleSetLane tag (i :: c.fields) s = State.withReply { s with lnc := lnc } tag b) :
      exec row s = .next (State.withReply { s with lnc := lnc } tag b).sends :=
    exec_laneRequest h (r := .setLane) (by decide) tag hf hs
      ((congrArg (handleSetLane tag · s) (readFields_fieldBytes hf)).trans ht)
  have harmed : (lane s i).armed = true ↔ armed := Lane.armed_iff _
  have hok : setLaneChecks s i c = ok := setLaneChecks_eq (not_overlapsAnother s i c)
  refine ⟨fun hi => ?_, fun hi ha => ?_, fun k hi ha hk => ?_, fun hi ha hall => ?_⟩
  · exact run (lnc := s.lnc) (handleSetLane_high tag c hi)
  · exact run (lnc := s.lnc) (handleSetLane_armed tag c hi (harmed.mpr ha))
  · refine run (lnc := s.lnc) ?_
    rw [handleSetLane_disarmed tag c hi (mt harmed.mp ha), hok, firstFailing_of_firstBad hk]
    rfl
  · refine run ?_
    rw [handleSetLane_disarmed tag c hi (mt harmed.mp ha), hok, firstFailing_of_allOk hall]
    rfl

/-- Settles O43: the state, the lane's number, the armed flag and the settings decide, in this order, how CLEAR_LANE is answered. -/
theorem clearLane : Obligations.ClearLane := by
  intro s tag i h hi256 row armed
  have hf : fitsWidths Request.clearLane.fieldWidths [i] := ⟨rfl, by simpa [Request.fieldWidths] using hi256⟩
  have run {lnc : List Lane} {b : ReplyBody} (hs : s.ict.state ≠ .faulted)
      (ht : handleClearLane tag [i] s = State.withReply { s with lnc := lnc } tag b) :
      exec row s = .next (State.withReply { s with lnc := lnc } tag b).sends :=
    exec_laneRequest h (r := .clearLane) (by decide) tag hf hs
      ((congrArg (handleClearLane tag · s) (readFields_fieldBytes hf)).trans ht)
  have harmed : (lane s i).armed = true ↔ armed := Lane.armed_iff _
  refine ⟨fun hs => ?_, fun hs hi => ?_, fun hs hi ha => ?_, fun hs hi ha hc => ?_, fun hs hi ha hc => ?_, by decide⟩
  · exact exec_laneRequest_faulted h (r := .clearLane) (by decide) tag hf hs
  · exact run hs (lnc := s.lnc) (handleClearLane_high tag hi)
  · exact run hs (lnc := s.lnc) (handleClearLane_armed tag hi (harmed.mpr ha))
  · refine run hs ?_
    rw [handleClearLane_disarmed tag hi (mt harmed.mp ha), Option.isSome_iff_ne_none.mpr hc]
    rfl
  · refine run hs (lnc := s.lnc) ?_
    rw [handleClearLane_disarmed tag hi (mt harmed.mp ha), hc]
    rfl

/-- Settles O44: once the two fields and the settings admit the request, the rows of Table XXV are the cases of the lane's state and
pending change. -/
theorem armLane : Obligations.ArmLane := by
  intro s tag i setting h hs hi256 hset256 row l working becomes
  have hf : fitsWidths Request.armLane.fieldWidths [i, setting] :=
    ⟨rfl, by simpa [Request.fieldWidths] using ⟨hi256, hset256⟩⟩
  have run {lnc : List Lane} {b : ReplyBody}
      (ht : handleArmLane tag [i, setting] s = State.withReply { s with lnc := lnc } tag b) :
      exec row s = .next (State.withReply { s with lnc := lnc } tag b).sends :=
    exec_laneRequest h (r := .armLane) (by decide) tag hf hs
      ((congrArg (handleArmLane tag · s) (readFields_fieldBytes hf)).trans ht)
  have row25 (on : Bool) (hi : i ≤ 15) (hset : setting = on.toNat) (hc : on = true → l.settings ≠ none)
      {a st : LaneState} {b change : LaneChange} {armed : Bool} (ha : l.state = a) (hb : l.change = b)
      (hl : ({ l with state := a, change := b } : Lane).arm on s.ict.state = { l with state := st, change := change })
      (hflag : ({ l with state := st, change := change } : Lane).armed = armed) : becomes st change armed := by
    have hon : decide (setting = 1) = on := by cases on <;> simp [hset]
    refine run ?_
    rw [handleArmLane_taken tag hi (by cases on <;> simp [hset]) fun h => hc (by rw [← hon, h]; rfl), hon,
      Lane.arm_found ha hb, hl, ← hflag]
  refine ⟨fun hi => ?_, fun hi hset => ?_, fun hi hset hc => ?_, fun hi hset hc => ?_, fun hi hset => ?_⟩
  · exact run (lnc := s.lnc) (handleArmLane_high tag hi)
  · exact run (lnc := s.lnc) (handleArmLane_setting tag hi hset)
  · exact run (lnc := s.lnc) (handleArmLane_unconfigured tag hi hset hc)
  · refine ⟨fun hst hch hrun => ?_, fun hst hch hrun => ?_, fun hst hch => ?_, fun hst hch => ?_, fun hw hch => ?_⟩
    · exact row25 true hi hset (fun _ => hc) hst hch (if_neg hrun) rfl
    · exact row25 true hi hset (fun _ => hc) hst hch (if_pos hrun) rfl
    · exact row25 true hi hset (fun _ => hc) hst hch rfl rfl
    · exact row25 true hi hset (fun _ => hc) hst hch rfl rfl
    · rcases hw with hst | hst | hst <;> rcases hch with hch | hch <;> rw [hst] <;>
        exact row25 true hi hset (fun _ => hc) hst hch rfl rfl
  · refine ⟨fun hst hch => ?_, fun hst hch => ?_, fun hw hch => ?_⟩
    · rcases hch with hch | hch <;> exact row25 false hi hset nofun hst hch rfl rfl
    · exact row25 false hi hset nofun hst hch rfl rfl
    · rcases hw with hst | hst | hst <;> rcases hch with hch | hch <;> rw [hst] <;>
        exact row25 false hi hset nofun hst hch rfl rfl

end Sys2Proof.Lanes
end

section
/-! PROOFS. The lane state machine: the placing of a line's marks, the class of the line for a lane, and what each class makes
of it. -/

namespace Sys2Proof.Machine

section
variable {index : Nat} {c : LaneSettings} {n : LaneLine} {l : Lane} {p : Patch}

/-! ## The placing of marks (R68, Table XXVII) -/

theorem LaneLine.isCoated_iff : n.isCoated = true ↔ n.suppressed = false ∧ n.cls = .coated := by
  simp [LaneLine.isCoated]

@[simp] theorem Lane.placeMarks_state : (l.placeMarks n).state = l.state := by
  simp only [Lane.placeMarks, Lane.markPatch]
  split <;> simp only [apply_ite Lane.state, ite_self]

/-- In SEEKING and GAP the marks stand on the enter run. -/
theorem Lane.placeMarks_enterRun (h : l.state = .seeking ∨ l.state = .gap) (hr : 0 < l.enterRun) :
    l.placeMarks n = { l with enterMarks := l.enterMarks.join n.marks } := by
  rcases h with h | h <;> simp only [Lane.placeMarks, h, if_pos hr]

/-- With no enter run there is nothing to mark. -/
theorem Lane.placeMarks_noEnterRun (h : l.state = .seeking ∨ l.state = .gap) (hr : l.enterRun = 0) : l.placeMarks n = l := by
  rcases h with h | h <;> simp only [Lane.placeMarks, h, hr, Nat.lt_irrefl, if_false]

/-- In COATED the marks stand on the patch at once, when no bare run is open or the line ends it. -/
theorem Lane.placeMarks_patch (h : l.state = .coated ∧ l.patch = some p) (hr : l.bareRun = 0 ∨ n.isCoated = true) :
    l.placeMarks n = { l with patch := some { p with flags := p.flags.join n.marks } } := by
  simp only [Lane.placeMarks, h.1, if_pos hr, Lane.markPatch, h.2, Option.map_some]

/-- In COATED with a bare run that goes on the marks stand on the run. -/
theorem Lane.placeMarks_bareRun (h : l.state = .coated) (hr : 0 < l.bareRun) (hn : n.isCoated = false) :
    l.placeMarks n = { l with bareMarks := l.bareMarks.join n.marks } := by
  simp only [Lane.placeMarks, h, hn, Nat.ne_of_gt hr, Bool.false_eq_true, or_self, if_false]

/-! ## The class of the line (R63, R64) -/

theorem Lane.advance_unused (h : n.suppressed = true ∨ n.cls = .blind) :
    l.advance index c n =
      { lane := l.placeMarks n, result := if n.suppressed then .suppressed else .blind, opened := false, ended := false
        void := none } := by
  simp only [Lane.advance]
  cases hs : n.suppressed with
  | true => rfl
  | false => simp [h.resolve_left (by simp [hs])]

theorem Lane.advance_enters (h : l.state = .seeking ∨ l.state = .gap) (hn : n.suppressed = false ∧ n.cls = .coated) :
    l.advance index c n = (l.placeMarks n).enterLine index c n := by
  rcases h with h | h <;> simp [Lane.advance, hn, h]

theorem Lane.advance_leavesEnter (h : l.state = .seeking ∨ l.state = .gap) (hn : n.suppressed = false ∧ n.cls = .bare) :
    l.advance index c n = (l.placeMarks n).leaveEnter := by
  rcases h with h | h <;> simp [Lane.advance, hn, h]

theorem Lane.advance_coatedLine (h : l.state = .coated) (hn : n.suppressed = false ∧ n.cls = .coated) :
    l.advance index c n = (l.placeMarks n).coatedLine index false := by
  simp [Lane.advance, hn, h]

theorem Lane.advance_bareLine (h : l.state = .coated) (hn : n.suppressed = false ∧ n.cls = .bare) :
    l.advance index c n = (l.placeMarks n).bareLine c n := by
  simp [Lane.advance, hn, h]

/-! ## A coated line in COATED (R66) -/

/-- The lead guard of a lane counts a coated line, or the lane is INSPECTED on it. -/
def Lane.guarded (l : Lane) (opened : Bool) (void : Option Report) : LaneStep :=
  if 0 < l.leadGuard then
    { lane := { l with leadGuard := l.leadGuard - 1 }, result := .leadGuard, opened := opened, ended := false, void := void }
  else { lane := l, result := .inspected, opened := opened, ended := false, void := void }

/-- The lane with no bare run. -/
def Lane.noBareRun (l : Lane) : Lane :=
  { l with bareRun := 0, bareFirst := 0, bareLast := 0, bareLargest := 0, bareMarks := Marks.none }

/-- The lane with no enter run. -/
def Lane.noEnterRun (l : Lane) : Lane := { l with enterRun := 0, enterFirst := 0, enterMarks := Marks.none }

theorem Lane.coatedLine_noBareRun (opened : Bool) (hr : l.bareRun = 0) : l.coatedLine index opened = l.guarded opened none := by
  simp only [Lane.coatedLine, Lane.guarded, hr, Nat.lt_irrefl, if_false]

/-- The bare run that a coated line ends is a VOID of the patch. -/
theorem Lane.coatedLine_void (opened : Bool) (hr : 0 < l.bareRun) (hp : l.patch = some p) :
    l.coatedLine index opened =
      Lane.guarded
        (Lane.noBareRun
          { l with patch := some { p with flags := p.flags.join l.bareMarks, voids := min (p.voids + 1) 65535 } })
        opened (some (.void index l.patchNumber l.bareFirst l.bareLast l.bareLargest)) := by
  simp only [Lane.coatedLine, if_pos hr, hp]
  rfl

/-! ## A coated line in SEEKING or GAP (R65) -/

theorem Lane.enterLine_first (hr : l.enterRun = 0) (hc : 1 < c.enter) :
    l.enterLine index c n =
      { lane := { l with enterRun := 1, enterFirst := n.number, enterMarks := Marks.none }, result := .outOfPatch
        opened := false, ended := false, void := none } := by
  simp only [Lane.enterLine, if_pos hr, if_neg (Nat.not_le.mpr hc)]

theorem Lane.enterLine_next (hr : 0 < l.enterRun) (hc : l.enterRun + 1 < c.enter) :
    l.enterLine index c n =
      { lane := { l with enterRun := l.enterRun + 1 }, result := .outOfPatch, opened := false, ended := false
        void := none } := by
  simp only [Lane.enterLine, if_neg (Nat.ne_of_gt hr), if_neg (Nat.not_le.mpr hc)]

/-- The enter count opens a patch, which starts with the enter run. -/
theorem Lane.enterLine_opens (hc : c.enter ≤ l.enterRun + 1) :
    l.enterLine index c n =
      Lane.guarded
        (Lane.noEnterRun (Lane.noBareRun { l with
          state := .coated, patchNumber := if l.patchNumber = 65535 then 0 else l.patchNumber + 1
          patch := some
            { start := if l.enterRun = 0 then n.number else l.enterFirst
              flags := if l.enterRun = 0 then Marks.none else l.enterMarks, spots := 0, voids := 0 }
          leadGuard := c.leadGuard }))
        true none := by
  by_cases hr : l.enterRun = 0
  · simp only [Lane.enterLine, if_pos hr, if_pos (show c.enter ≤ 1 by omega)]
    exact Lane.coatedLine_noBareRun true rfl
  · simp only [Lane.enterLine, if_neg hr, if_pos hc]
    exact Lane.coatedLine_noBareRun true rfl

/-! ## A bare line in COATED (R67) -/

theorem Lane.bareLine_first (hr : l.bareRun = 0) (hc : 1 < c.leave) :
    l.bareLine c n =
      { lane :=
          { l with
            bareRun := 1, bareFirst := n.number, bareLast := n.number, bareLargest := n.bareCount, bareMarks := Marks.none }
        result := .bare, opened := false, ended := false, void := none } := by
  simp only [Lane.bareLine, if_pos hr, if_neg (Nat.not_le.mpr hc)]

theorem Lane.bareLine_next (hr : 0 < l.bareRun) (hc : l.bareRun + 1 < c.leave) :
    l.bareLine c n =
      { lane :=
          { l with bareRun := l.bareRun + 1, bareLast := n.number, bareLargest := max l.bareLargest n.bareCount }
        result := .bare, opened := false, ended := false, void := none } := by
  simp only [Lane.bareLine, if_neg (Nat.ne_of_gt hr), if_neg (Nat.not_le.mpr hc)]

/-- The leave count ends the patch one line before the bare run. -/
theorem Lane.bareLine_ends (hp : l.patch = some p) (hc : c.leave ≤ l.bareRun + 1) :
    l.bareLine c n =
      { lane := Lane.noBareRun { l with
          state := .gap, patch := none
          ended := some { patch := p, endLine := (if l.bareRun = 0 then n.number else l.bareFirst) - 1 } }
        result := .bare, opened := false, ended := true, void := none } := by
  by_cases hr : l.bareRun = 0
  · simp only [Lane.bareLine, if_pos hr, if_pos (show c.leave ≤ 1 by omega), hp]
    rfl
  · simp only [Lane.bareLine, if_neg hr, if_pos hc, hp]
    rfl

end

end Sys2Proof.Machine

namespace Sys2Proof.Lanes

open Sys2Proof.Machine

/-- Settles O46: the line's marks are placed, and its class and the lane's run then decide the step. -/
theorem laneAdvances : Obligations.LaneAdvances := by
  intro index c n l p seeking coated used dropped marks quiet noEnter noBare guarded
  have hmarks {cls : LineClass} (h : used cls) : n.marks = dropped := by simp only [LaneLine.marks, h.1, dropped]
  have hbare (h : used .bare) : n.isCoated = false := by simp [LaneLine.isCoated, h.2]
  refine ⟨fun hl hn hr hc => ?_, fun hl hn hr hc => ?_, fun hl hn hc => ?_, fun hl hn => ?_, fun hl hn hr => ?_,
    fun hl hn hr => ?_, fun hl hn hr hc => ?_, fun hl hn hr hc => ?_, fun hl hn hc => ?_, fun hn => ?_⟩
  -- a coated line in SEEKING or GAP
  · rw [Lane.advance_enters hl hn, Lane.placeMarks_noEnterRun hl hr, Lane.enterLine_first hr hc]
  · rw [Lane.advance_enters hl hn, Lane.placeMarks_enterRun hl hr, hmarks hn]
    exact Lane.enterLine_next (l := { l with enterMarks := l.enterMarks.join dropped }) hr hc
  · rw [Lane.advance_enters hl hn]
    by_cases hr : l.enterRun = 0
    · rw [Lane.placeMarks_noEnterRun hl hr, Lane.enterLine_opens hc, hr]
      rfl
    · rw [Lane.placeMarks_enterRun hl (Nat.pos_of_ne_zero hr), hmarks hn, if_neg hr]
      refine (Lane.enterLine_opens (l := { l with enterMarks := l.enterMarks.join dropped }) hc).trans ?_
      rw [if_neg hr, if_neg hr]
      rfl
  -- a bare line in SEEKING or GAP
  · rw [Lane.advance_leavesEnter hl hn]
    by_cases hr : l.enterRun = 0
    · rw [Lane.placeMarks_noEnterRun hl hr]
      rfl
    · rw [Lane.placeMarks_enterRun hl (Nat.pos_of_ne_zero hr)]
      rfl
  -- a coated line in COATED
  · rw [Lane.advance_coatedLine hl.1 hn, Lane.placeMarks_patch hl (.inl hr), hmarks hn]
    exact Lane.coatedLine_noBareRun false hr
  · rw [Lane.advance_coatedLine hl.1 hn, Lane.placeMarks_patch hl (.inr (LaneLine.isCoated_iff.mpr hn)), hmarks hn]
    exact Lane.coatedLine_void (l := { l with patch := some { p with flags := p.flags.join dropped } }) false hr rfl
  -- a bare line in COATED
  · rw [Lane.advance_bareLine hl.1 hn, Lane.placeMarks_patch hl (.inl hr), hmarks hn]
    exact Lane.bareLine_first hr hc
  · rw [Lane.advance_bareLine hl.1 hn, Lane.placeMarks_bareRun hl.1 hr (hbare hn), hmarks hn]
    exact Lane.bareLine_next hr hc
  · rw [Lane.advance_bareLine hl.1 hn]
    by_cases hr : l.bareRun = 0
    · rw [Lane.placeMarks_patch hl (.inl hr), hmarks hn, if_pos hr, Lane.bareLine_ends rfl (by omega)]
      rfl
    · rw [Lane.placeMarks_bareRun hl.1 (Nat.pos_of_ne_zero hr) (hbare hn), hmarks hn, if_neg hr]
      exact Lane.bareLine_ends hl.2 hc
  -- a suppressed or blind line
  · have hcoated : n.isCoated = false := Bool.eq_false_iff.mpr fun h => by
      rw [LaneLine.isCoated_iff] at h
      rcases hn with hn | hn <;> simp_all
    rw [Lane.advance_unused hn]
    exact ⟨fun hl hr => congrArg (quiet · _) (Lane.placeMarks_enterRun hl hr),
      fun hl hr => congrArg (quiet · _) (Lane.placeMarks_noEnterRun hl hr),
      fun hl hr => congrArg (quiet · _) (Lane.placeMarks_patch hl (.inl hr)),
      fun hl hr => congrArg (quiet · _) (Lane.placeMarks_bareRun hl.1 hr hcoated)⟩

end Sys2Proof.Lanes
end

section
/-! PROOFS. LNC's stage of a line: the pending changes, the lanes' steps and outcomes, and the VOID reports. -/

namespace Sys2Proof.Machine

/-! ## Lists worked on place by place -/

section
variable {α : Type} (g : Nat → α → α) (l : List α) (n : Nat) (d : α)

/-- A list with its first `n` places worked on. -/
def mapBelow : List α := l.mapIdx (fun i a => if i < n then g i a else a)

theorem mapBelow_zero : mapBelow g l 0 = l := List.ext_getElem (by simp [mapBelow]) (by simp [mapBelow])

theorem mapBelow_length : (mapBelow g l n).length = l.length := List.length_mapIdx

/-- The next place is as it was. -/
theorem getD_mapBelow : (mapBelow g l n).getD n d = l.getD n d := by
  simp only [mapBelow, List.getD, List.getElem?_mapIdx]
  cases l[n]? <;> simp

/-- The next place is worked on. -/
theorem mapBelow_succ : (mapBelow g l n).set n (g n (l.getD n d)) = mapBelow g l (n + 1) := by
  refine List.ext_getElem (by simp [mapBelow]) fun i hi _ => ?_
  have hl : i < l.length := by simpa [mapBelow] using hi
  simp only [mapBelow, List.getElem_set, List.getElem_mapIdx]
  by_cases h : n = i
  · subst h
    simp [List.getD, hl]
  · have : i < n + 1 ↔ i < n := by omega
    simp [h, this]

/-- A next place that the work leaves as it is. -/
theorem mapBelow_succ_same (h : g n (l.getD n d) = l.getD n d) : mapBelow g l (n + 1) = mapBelow g l n := by
  rw [← mapBelow_succ g l n d, h, ← getD_mapBelow g l n d]
  by_cases hn : n < (mapBelow g l n).length
  · simp [List.getD, hn]
  · exact List.set_eq_of_length_le (Nat.le_of_not_lt hn)

/-- Every place worked on. -/
theorem mapBelow_all (h : l.length ≤ n) : mapBelow g l n = l.mapIdx g := by
  refine List.ext_getElem (by simp [mapBelow]) fun i hi _ => ?_
  have hl : i < n := by simp only [mapBelow_length] at hi; omega
  simp [mapBelow, hl]

end

/-! ## Reports entered one after another -/

/-- The report queue with some reports more. -/
def Rpq.enterAll (q : Rpq) (rs : List Report) : Rpq := rs.foldl (fun q r => q.enter (q.priorityOf r.kind) r none) q

theorem withReports_eq (rs : List Report) (s : State) :
    rs.foldl State.withReport s = { s with rpq := s.rpq.enterAll rs } := by
  induction rs generalizing s with
  | nil => rfl
  | cons r rs ih => exact ih (s.withReport r)

/-! ## Zeroing (R102) -/

/-- Every listed column, and no other, is quiet after zeroing. -/
theorem get_zeroed (cols : List Nat) {m : Sparse ColumnState} (hw : Sparse.wf quietColumn m = true) (k : Nat) :
    Sparse.get quietColumn (cols.foldl (fun m c => Sparse.set quietColumn m c quietColumn) m) k =
      if k ∈ cols then quietColumn else Sparse.get quietColumn m k := by
  induction cols generalizing m with
  | nil => simp
  | cons c cols ih =>
    rw [List.foldl_cons, ih (Sparse.wf_set _ m c _ hw)]
    by_cases hk : k = c
    · subst hk
      simp [Sparse.get_set_same quietColumn m k quietColumn 0 hw]
    · simp [hk, Sparse.get_set_other quietColumn m c k quietColumn 0 hw hk]

theorem get_zeroColumns (first last : Nat) {m : Sparse ColumnState} (hw : Sparse.wf quietColumn m = true) (k : Nat) :
    Sparse.get quietColumn (zeroColumns first last m) k =
      if first ≤ k ∧ k ≤ last then quietColumn else Sparse.get quietColumn m k := by
  have hmem : k ∈ (List.range (last + 1 - first)).map (first + ·) ↔ first ≤ k ∧ k ≤ last := by
    rw [List.mem_map]
    exact ⟨fun ⟨n, hn, hk⟩ => by rw [List.mem_range] at hn; omega,
      fun hk => ⟨k - first, by rw [List.mem_range]; omega, by omega⟩⟩
  rw [zeroColumns, get_zeroed _ hw]
  simp only [hmem]

/-! ## The pending changes (R62) -/

/-- A lane with its pending change taken. -/
def Lane.changed (l : Lane) : Lane :=
  match l.change with
  | .none => l
  | .arm => { l.dropRun with state := .seeking, change := .none }
  | .disarm => { l.dropRun with state := .disarmed, change := .none }

/-- STI after the change of a lane, if it has one, has been taken. -/
def Sti.afterChange (t : Sti) (i : Nat) (l : Lane) : Sti :=
  match l.change, l.settings with
  | .none, _ => t
  | _, some c => t.takeChange i c
  | _, none => t

@[simp] theorem Lane.changed_patchNumber (l : Lane) : l.changed.patchNumber = l.patchNumber := by
  simp only [Lane.changed]
  split <;> rfl

/-- A lane disarmed is DISARMED. -/
theorem Lane.changed_disarm {l : Lane} (h : l.change = .disarm) : l.changed.state = .disarmed := by
  simp only [Lane.changed, h]

theorem takeChange_eq (i : Nat) (s : State) :
    takeChange i s =
      ({ s with lnc := s.lnc.set i (lane s i).changed, sti := s.sti.afterChange i (lane s i) },
        decide ((lane s i).change = .disarm)) := by
  have hself : s.lnc.set i (lane s i) = s.lnc := by
    by_cases h : i < s.lnc.length
    · simp [lane, List.getD, h]
    · exact List.set_eq_of_length_le (Nat.le_of_not_lt h)
  simp only [takeChange, Lane.changed, Sti.afterChange]
  cases (lane s i).change with
  | none => simp [hself]
  | arm => cases (lane s i).settings <;> rfl
  | disarm => cases (lane s i).settings <;> rfl

/-- The part with the pending changes of the lanes below `n` taken. -/
def State.changesTaken (s : State) (n : Nat) : State :=
  { s with
    lnc := mapBelow (fun _ => Lane.changed) s.lnc n
    sti := (List.range n).foldl (fun t i => t.afterChange i (lane s i)) s.sti }

/-- The lanes below `n` that are disarmed. -/
def State.disarmedBelow (s : State) (n : Nat) : List Nat := (List.range n).filter (fun i => (lane s i).change = .disarm)

theorem State.changesTaken_succ (s : State) (n : Nat) :
    takeChange n (s.changesTaken n) = (s.changesTaken (n + 1), decide ((lane s n).change = .disarm)) := by
  have hlane : lane (s.changesTaken n) n = lane s n := getD_mapBelow ..
  rw [takeChange_eq, hlane]
  simp only [State.changesTaken, List.range_succ, List.foldl_append, List.foldl_cons, List.foldl_nil]
  rw [← mapBelow_succ (fun _ => Lane.changed) s.lnc n Lane.reset]
  rfl

/-- Every pending change is taken. -/
theorem takeChanges_eq (s : State) : takeChanges s = (s.changesTaken 16, s.disarmedBelow 16) := by
  have below (n : Nat) :
      (List.range n).foldl
        (fun (s, gone) i =>
          match takeChange i s with
          | (s, true) => (s, gone ++ [i])
          | (s, false) => (s, gone))
        (s, []) = (s.changesTaken n, s.disarmedBelow n) := by
    induction n with
    | zero => simp only [State.changesTaken, mapBelow_zero]; rfl
    | succ n ih =>
      have hgone : s.disarmedBelow (n + 1) =
          s.disarmedBelow n ++ bif decide ((lane s n).change = .disarm) then [n] else [] := by
        rw [State.disarmedBelow, List.range_succ, List.filter_append, List.filter_singleton]
        rfl
      rw [List.range_succ, List.foldl_append, ih, List.foldl_cons, List.foldl_nil, hgone]
      simp only [State.changesTaken_succ]
      cases decide ((lane s n).change = .disarm) with
      | true => rfl
      | false => simp
  exact below 16

end Sys2Proof.Machine
end

section
/-! PROOFS. The lanes' steps on a line in LNC's stage, their outcomes, and the stage's end. -/

namespace Sys2Proof.Machine

/-! ## The step of one lane (R63 to R70) -/

/-- A line as a lane with these settings sees it. -/
def Slot.lineFor (sl : Slot) (c : LaneSettings) : LaneLine :=
  { number := sl.number, suppressed := sl.suppressed, droppedBefore := sl.droppedBefore
    cls := classify (validColumns c sl.pixels).length (bareCount c (validColumns c sl.pixels))
    bareCount := bareCount c (validColumns c sl.pixels) }

/-- The step of a lane on a line, when LNC classifies the line for it. -/
def Lane.stepOn (l : Lane) (sl : Slot) (i : Nat) : Option LaneStep :=
  match l.settings with
  | some c => if l.active then some (l.advance i c (sl.lineFor c)) else none
  | none => none

/-- The lane after the line. -/
def Lane.after (l : Lane) (sl : Slot) (i : Nat) : Lane :=
  match l.stepOn sl i with
  | some st => st.lane
  | none => l

/-- The outcome of a lane's step (Table XXVIII). -/
def LaneStep.outcome (st : LaneStep) (sl : Slot) (i : Nat) : LaneOutcome :=
  { lane := i, result := st.result, patchNumber := st.lane.patchNumber, patchOpened := st.opened, patchEnd := st.ended
    suppressed := sl.suppressed, droppedBefore := sl.droppedBefore }

/-- The lane is in a state in which LNC classifies the line. -/
theorem Lane.active_iff (l : Lane) : l.active = true ↔ l.state = .seeking ∨ l.state = .coated ∨ l.state = .gap := by
  simp only [Lane.active]
  cases l.state <;> simp

theorem Lane.stepOn_inactive {l : Lane} (h : l.active = false) (sl : Slot) (i : Nat) : l.stepOn sl i = none := by
  simp only [Lane.stepOn, h]
  cases l.settings <;> rfl

theorem lncLane_eq (sl : Slot) (i : Nat) (s : State) :
    lncLane sl i s =
      match (lane s i).stepOn sl i with
      | some st =>
        (match st.void with
          | some r => post r none (s.setLane i st.lane)
          | none => s.setLane i st.lane,
          some (st.outcome sl i))
      | none => (s, none) := by
  simp only [lncLane, Lane.stepOn]
  cases (lane s i).settings with
  | none => rfl
  | some c => cases (lane s i).active <;> rfl

section
variable {index : Nat} {c : LaneSettings} {n : LaneLine} {l : Lane}

theorem Lane.guarded_void (opened : Bool) (void : Option Report) : (l.guarded opened void).void = void := by
  simp only [Lane.guarded]
  split <;> rfl

theorem Lane.coatedLine_report (opened : Bool) :
    (l.coatedLine index opened).void =
      if 0 < l.bareRun then some (.void index l.patchNumber l.bareFirst l.bareLast l.bareLargest) else none := by
  simp only [Lane.coatedLine]
  split_ifs <;> rfl

/-- A line that opens a patch ends no bare run. -/
theorem Lane.enterLine_report : (l.enterLine index c n).void = none := by
  by_cases hc : c.enter ≤ l.enterRun + 1
  · rw [Lane.enterLine_opens hc, Lane.guarded_void]
  · rcases Nat.eq_zero_or_pos l.enterRun with hr | hr
    · rw [Lane.enterLine_first hr (by omega)]
    · rw [Lane.enterLine_next hr (by omega)]

theorem Lane.bareLine_report : (l.bareLine c n).void = none := by
  simp only [Lane.bareLine]
  split_ifs <;> rfl

/-- The report that a lane's step posts is a VOID. -/
theorem Lane.advance_void {r : Report} (hl : l.active = true) (h : (l.advance index c n).void = some r) : r.kind = .void := by
  by_cases hu : n.suppressed = true ∨ n.cls = .blind
  · rw [Lane.advance_unused hu] at h
    exact absurd h nofun
  · obtain ⟨hs, hb⟩ := not_or.mp hu
    rw [Bool.not_eq_true] at hs
    have hused : n.cls = .coated ∨ n.cls = .bare := by cases hc : n.cls <;> simp_all
    have hstate : l.state = .coated ∨ l.state = .seeking ∨ l.state = .gap := or_left_comm.mp ((Lane.active_iff l).mp hl)
    rcases hstate with hl | hl <;> rcases hused with hc | hc
    · rw [Lane.advance_coatedLine hl ⟨hs, hc⟩, Lane.coatedLine_report, Option.ite_none_right_eq_some] at h
      rw [← Option.some.inj h.2]
      rfl
    · rw [Lane.advance_bareLine hl ⟨hs, hc⟩, Lane.bareLine_report] at h
      exact absurd h nofun
    · rw [Lane.advance_enters hl ⟨hs, hc⟩, Lane.enterLine_report] at h
      exact absurd h nofun
    · rw [Lane.advance_leavesEnter hl ⟨hs, hc⟩] at h
      exact absurd h nofun

end

theorem Lane.stepOn_void {l : Lane} {sl : Slot} {i : Nat} {st : LaneStep} {r : Report} (h : l.stepOn sl i = some st)
    (hv : st.void = some r) : r.kind = .void := by
  simp only [Lane.stepOn] at h
  split at h
  · rw [Option.ite_none_right_eq_some] at h
    rw [← Option.some.inj h.2] at hv
    exact Lane.advance_void h.1 hv
  · exact absurd h nofun

/-! ## Lane after lane (R69, R70) -/

theorem filterMap_range_succ {α : Type} (f : Nat → Option α) (n : Nat) :
    (List.range (n + 1)).filterMap f = (List.range n).filterMap f ++ (f n).toList := by
  rw [List.range_succ, List.filterMap_append]
  cases h : f n <;> simp [h]

/-- The VOID reports of the lanes below `n`, in lane order. -/
def State.voidsBelow (s : State) (sl : Slot) (n : Nat) : List Report :=
  (List.range n).filterMap (fun i => ((lane s i).stepOn sl i).bind (·.void))

/-- The outcomes of the lanes below `n`, those of the lanes disarmed among them. -/
def State.outcomesBelow (s : State) (sl : Slot) (gone : List Nat) (n : Nat) : List LaneOutcome :=
  (List.range n).filterMap (fun i =>
    if i ∈ gone then some (laneChangedOutcome sl s i) else ((lane s i).stepOn sl i).map (·.outcome sl i))

/-- The part with the lanes below `n` advanced and their VOID reports posted. -/
def State.advancedBelow (s : State) (sl : Slot) (n : Nat) : State :=
  (s.voidsBelow sl n).foldl State.withReport { s with lnc := mapBelow (fun i l => l.after sl i) s.lnc n }

section
variable (s : State) (sl : Slot) (n : Nat)

theorem State.voidsBelow_succ :
    s.voidsBelow sl (n + 1) = s.voidsBelow sl n ++ (((lane s n).stepOn sl n).bind (·.void)).toList :=
  filterMap_range_succ _ n

theorem State.advancedBelow_frame :
    ∃ lnc rpq, s.advancedBelow sl n = { s with lnc := lnc, rpq := rpq } ∧
      rpq.queue.length = s.rpq.queue.length + (s.voidsBelow sl n).length ∧ rpq.priority = s.rpq.priority := by
  obtain ⟨rpq, h, hlen, hp⟩ :=
    withReports_frame (s.voidsBelow sl n) { s with lnc := mapBelow (fun i l => l.after sl i) s.lnc n }
  exact ⟨_, rpq, h, hlen, hp⟩

/-- The next lane is as it was. -/
theorem lane_advancedBelow : lane (s.advancedBelow sl n) n = lane s n := by
  rw [State.advancedBelow, withReports_eq]
  exact getD_mapBelow ..

/-- A lane that LNC does not classify stays. -/
theorem State.advancedBelow_succ_none (h : (lane s n).stepOn sl n = none) :
    s.advancedBelow sl (n + 1) = s.advancedBelow sl n := by
  have hafter : (s.lnc.getD n Lane.reset).after sl n = s.lnc.getD n Lane.reset := by
    simp only [Lane.after, show (s.lnc.getD n Lane.reset).stepOn sl n = none from h]
  rw [State.advancedBelow, State.voidsBelow_succ, h, mapBelow_succ_same _ _ _ Lane.reset hafter, State.advancedBelow]
  exact congrArg (List.foldl State.withReport _) (List.append_nil _)

/-- The next lane advances, and a VOID that ended is entered last. -/
theorem State.advancedBelow_succ_some {st : LaneStep} (h : (lane s n).stepOn sl n = some st) :
    s.advancedBelow sl (n + 1) = st.void.toList.foldl State.withReport ((s.advancedBelow sl n).setLane n st.lane) := by
  have hafter : (s.lnc.getD n Lane.reset).after sl n = st.lane := by
    simp only [Lane.after, show (s.lnc.getD n Lane.reset).stepOn sl n = some st from h]
  rw [State.advancedBelow, State.voidsBelow_succ, h, List.foldl_append, ← mapBelow_succ _ _ _ Lane.reset, hafter,
    State.advancedBelow, ← withReports_setLane]
  rfl

end

/-- LNC's work on the lanes below `n`, when every VOID has room and the lanes disarmed are DISARMED. -/
theorem lncLanes_below {s : State} {sl : Slot} {gone : List Nat} (hs : s.ict.state ≠ .faulted)
    (hg : ∀ i ∈ gone, (lane s i).state = .disarmed)
    (hr : s.voidsBelow sl 16 = [] ∨
      (s.rpq.queue.length + (s.voidsBelow sl 16).length ≤ 128 ∧ 0 < s.rpq.priorityOf .void)) (n : Nat) (hn : n ≤ 16) :
    (List.range n).foldl (lncLanes sl gone) { state := s, outcomes := [] } =
      { state := s.advancedBelow sl n, outcomes := s.outcomesBelow sl gone n } := by
  induction n with
  | zero =>
    rw [State.advancedBelow, mapBelow_zero]
    rfl
  | succ n ih =>
    obtain ⟨lnc, rpq, hframe, hlen, hp⟩ := s.advancedBelow_frame sl n
    have hrun : (s.advancedBelow sl n).ict.state ≠ .faulted := by rw [hframe]; exact hs
    have houtcomes : s.outcomesBelow sl gone (n + 1) = s.outcomesBelow sl gone n ++
        (if n ∈ gone then some (laneChangedOutcome sl s n)
          else ((lane s n).stepOn sl n).map (·.outcome sl n)).toList := filterMap_range_succ _ n
    rw [List.range_succ, List.foldl_append, ih (by omega), List.foldl_cons, List.foldl_nil, lncLanes, if_neg hrun,
      houtcomes]
    by_cases hgone : n ∈ gone
    · have hstep : (lane s n).stepOn sl n = none :=
        Lane.stepOn_inactive (by simp only [Lane.active, hg n hgone]) sl n
      rw [if_pos hgone, if_pos hgone, State.advancedBelow_succ_none s sl n hstep, laneChangedOutcome, lane_advancedBelow]
      rfl
    · rw [if_neg hgone, if_neg hgone, lncLane_eq, lane_advancedBelow]
      cases hstep : (lane s n).stepOn sl n with
      | none =>
        rw [State.advancedBelow_succ_none s sl n hstep]
        simp
      | some st =>
        rw [State.advancedBelow_succ_some s sl n hstep]
        dsimp only
        cases hv : st.void with
        | none => rfl
        | some r =>
          have hroom : State.room ((s.advancedBelow sl n).setLane n st.lane) r.kind := by
            have hlonger : (s.voidsBelow sl (n + 1)).length ≤ (s.voidsBelow sl 16).length :=
              ((List.range_sublist.mpr hn).filterMap _).length_le
            have hone : (s.voidsBelow sl (n + 1)).length = (s.voidsBelow sl n).length + 1 := by
              rw [State.voidsBelow_succ, hstep, Option.bind_some, hv]
              simp
            obtain ⟨hfit, hprio⟩ := hr.resolve_left fun h => by rw [h, List.length_nil] at hlonger; omega
            rw [hframe, Lane.stepOn_void hstep hv]
            exact ⟨show rpq.queue.length < 128 by omega, by rw [Rpq.priorityOf, State.setLane_rpq, hp]; exact hprio⟩
          simp only [post_room _ r none hroom]
          rfl

/-! ## The stage (R62, R69) -/

theorem lane_changesTaken {s : State} (h16 : s.lnc.length = 16) (i : Nat) :
    lane (s.changesTaken 16) i = (lane s i).changed := by
  simp only [lane, State.changesTaken, mapBelow_all _ _ _ (Nat.le_of_eq h16), List.getD, List.getElem?_mapIdx]
  cases s.lnc[i]? <;> rfl

theorem mem_disarmedBelow {s : State} {n i : Nat} : i ∈ s.disarmedBelow n ↔ i < n ∧ (lane s i).change = .disarm := by
  simp [State.disarmedBelow]

/-- The part as LNC's stage of a line leaves it. -/
def State.lncPassed (s : State) (p : Processing) : State :=
  let u := s.changesTaken 16
  let sl := s.las.slot p.slot
  { u.advancedBelow sl 16 with
    las := { s.las with
      processing := some { p with lnc := true }
      slots := s.las.slots.set p.slot { sl with outcomes := u.outcomesBelow sl (s.disarmedBelow 16) 16 } } }

section
variable {s : State} {p : Processing} (hp : s.las.processing = some p)
include hp

theorem lncStage_passes (hl : p.lnc = false) (hs : s.ict.state ≠ .faulted) (h16 : s.lnc.length = 16)
    (hr : (s.changesTaken 16).voidsBelow (s.las.slot p.slot) 16 = [] ∨
      (s.rpq.queue.length + ((s.changesTaken 16).voidsBelow (s.las.slot p.slot) 16).length ≤ 128 ∧
        0 < s.rpq.priorityOf .void)) : lncStage s = s.lncPassed p := by
  have hdisarmed : ∀ i ∈ s.disarmedBelow 16, (lane (s.changesTaken 16) i).state = .disarmed := fun i hi => by
    rw [lane_changesTaken h16]
    exact Lane.changed_disarm (mem_disarmedBelow.mp hi).2
  obtain ⟨lnc, rpq, hframe, -⟩ := (s.changesTaken 16).advancedBelow_frame (s.las.slot p.slot) 16
  simp only [lncStage, hp, hl, Bool.false_eq_true, if_false, takeChanges_eq,
    lncLanes_below (s := s.changesTaken 16) hs hdisarmed hr 16 le_rfl]
  rw [unlessFaulted_eq (by rw [hframe]; exact hs), State.lncPassed, hframe]
  rfl

/-- While a line is in processing no calibration completes, and a stop waits. -/
theorem State.nothingDue_of_line : s.nothingDue :=
  ⟨fun h => absurd (hp.symm.trans h.2) nofun, fun r _ => Bool.eq_false_iff.mpr fun hd => by
    obtain ⟨⟨-, -, -, hnone⟩, -⟩ := (calibrationDue_iff r s).mp hd
    exact absurd (hp.symm.trans hnone) nofun⟩

end

end Sys2Proof.Machine

namespace Sys2Proof.Lanes

open Sys2Proof.Machine

/-- Settles O45: the changes are taken lane by lane, then the lanes advance lane by lane, and each VOID finds room; a change taken
zeroes the lane's columns and no other. -/
theorem lncStage : Obligations.LncStage := by
  refine ⟨fun s p h hp hl hs h16 => ?_, fun t i c hw => ?_⟩
  · intro sl line changed stepOf outcome voids hroom
    have hstep (i : Nat) (l : Lane) : stepOf i l = l.stepOn sl i := by
      simp only [stepOf, Lane.stepOn, Lane.active_iff]
      rfl
    have hlane (i : Nat) : lane (s.changesTaken 16) i = changed (lane s i) := lane_changesTaken h16 i
    have hvoids : (s.changesTaken 16).voidsBelow sl 16 = voids := by
      simp only [State.voidsBelow, hlane, ← hstep, voids]
    have houtcomes : (s.changesTaken 16).outcomesBelow sl (s.disarmedBelow 16) 16 =
        (List.range 16).filterMap (fun i =>
          if (lane s i).change = .disarm then some (outcome i (lane s i) .laneChanged false false)
          else (stepOf i (changed (lane s i))).map (fun st => outcome i st.lane st.result st.opened st.ended)) := by
      refine List.filterMap_congr fun i hi => ?_
      have hgone : i ∈ s.disarmedBelow 16 ↔ (lane s i).change = .disarm := by
        rw [mem_disarmedBelow]
        exact and_iff_right (List.mem_range.mp hi)
      have hnumber : (changed (lane s i)).patchNumber = (lane s i).patchNumber := Lane.changed_patchNumber _
      simp only [hgone, laneChangedOutcome, hlane, hnumber, hstep]
      rfl
    have hlnc : mapBelow (fun i l => l.after sl i) (s.changesTaken 16).lnc 16 =
        s.lnc.mapIdx (fun i l => match stepOf i (changed l) with
          | some st => st.lane
          | none => changed l) := by
      have hall : (s.changesTaken 16).lnc = s.lnc.mapIdx (fun _ => Lane.changed) := mapBelow_all _ _ _ (Nat.le_of_eq h16)
      rw [mapBelow_all _ _ _ (by rw [hall, List.length_mapIdx, h16]), hall, List.mapIdx_mapIdx]
      simp only [hstep]
      rfl
    refine inService_of_posted _ h (t := voids.foldl State.withReport _)
      ((lncStage_passes hp hl hs h16 (by rw [hvoids]; exact hroom)).trans ?_) ?_ ?_
    · rw [State.lncPassed, houtcomes, State.advancedBelow, hvoids, hlnc, withReports_eq, withReports_eq]
      rfl
    · rw [withReports_eq]
    · rw [withReports_eq]
      exact State.nothingDue_of_line rfl
  · exact ⟨zeroColumns c.first c.last t.columns, rfl, get_zeroColumns c.first c.last hw⟩

end Sys2Proof.Lanes
end

section
/-! PROOFS. SPD: the valid columns of a lane, its spot pixels and their runs, and the lists kept in order of first column. -/

namespace Sys2Proof.Machine

/-! ## Valid columns (R63) -/

theorem mem_validFrom {v : ValidColumn} {c : Nat} {ps : List Pixel} :
    v ∈ validFrom c ps ↔
      c ≤ v.column ∧ ∃ x, ps[v.column - c]? = some x ∧ x.level? = some v.level ∧ x.isSaturated = v.saturated := by
  induction ps generalizing c with
  | nil => simp [validFrom]
  | cons x ps ih =>
    have hnext : c + 1 ≤ v.column → (x :: ps)[v.column - c]? = ps[v.column - (c + 1)]? := fun h => by
      rw [show v.column - c = v.column - (c + 1) + 1 by omega, List.getElem?_cons_succ]
    have hrest : v ∈ validFrom (c + 1) ps ↔ c + 1 ≤ v.column ∧
        ∃ y, (x :: ps)[v.column - c]? = some y ∧ y.level? = some v.level ∧ y.isSaturated = v.saturated := by
      rw [ih]
      exact and_congr_right fun h => by rw [hnext h]
    have hfirst : v.column = c → (x :: ps)[v.column - c]? = some x := fun h => by rw [h, Nat.sub_self]; rfl
    simp only [validFrom]
    cases hx : x.level? with
    | none =>
      dsimp only
      rw [hrest]
      refine ⟨fun h => ⟨by omega, h.2⟩, fun ⟨hc, y, hy, hl, hs⟩ => ⟨?_, y, hy, hl, hs⟩⟩
      by_contra hlt
      rw [hfirst (by omega), Option.some.injEq] at hy
      rw [← hy, hx] at hl
      exact absurd hl nofun
    | some level =>
      dsimp only
      rw [List.mem_cons, hrest]
      constructor
      · rintro (rfl | h)
        · exact ⟨le_rfl, x, hfirst rfl, hx, rfl⟩
        · exact ⟨by omega, h.2⟩
      · rintro ⟨hc, y, hy, hl, hs⟩
        by_cases hlt : c + 1 ≤ v.column
        · exact .inr ⟨hlt, y, hy, hl, hs⟩
        · have hcol : v.column = c := by omega
          rw [hfirst hcol, Option.some.injEq] at hy
          subst hy
          rw [hx, Option.some.injEq] at hl
          obtain ⟨column, l, saturated⟩ := v
          exact .inl (by simp_all)

theorem validFrom_rising (c : Nat) (ps : List Pixel) :
    (validFrom c ps).Pairwise (fun a b => a.column < b.column) := by
  induction ps generalizing c with
  | nil => exact .nil
  | cons x ps ih =>
    simp only [validFrom]
    cases x.level? with
    | none => exact ih (c + 1)
    | some level => exact .cons (fun v hv => (mem_validFrom.mp hv).1) (ih (c + 1))

/-- A pixel with a level holds it, or is saturated at the top level (R38). -/
theorem Pixel.level_iff {x : Pixel} {level : Nat} {saturated : Bool} :
    x.level? = some level ∧ x.isSaturated = saturated ↔
      x = .level level ∧ saturated = false ∨ x = .saturated ∧ level = 1023 ∧ saturated = true := by
  cases x <;> simp [Pixel.level?, Pixel.isSaturated, eq_comm]

/-- The valid columns stand between the guards, and have a level or are saturated. -/
theorem mem_validColumns {c : LaneSettings} {pixels : List Pixel} {v : ValidColumn} :
    v ∈ validColumns c pixels ↔ c.first + c.guard ≤ v.column ∧ v.column + c.guard ≤ c.last ∧
      (pixels[v.column]? = some (.level v.level) ∧ v.saturated = false ∨
        pixels[v.column]? = some .saturated ∧ v.level = 1023 ∧ v.saturated = true) := by
  rw [validColumns, mem_validFrom]
  refine and_congr_right fun hc => ?_
  have hwidth : v.column - (c.first + c.guard) < c.effectiveWidth ↔ v.column + c.guard ≤ c.last := by
    rw [LaneSettings.effectiveWidth]
    omega
  rw [List.getElem?_take, List.getElem?_drop, Nat.add_sub_cancel' hc]
  by_cases hw : v.column + c.guard ≤ c.last
  · rw [if_pos (hwidth.mpr hw)]
    simp only [Pixel.level_iff, hw, true_and]
    cases pixels[v.column]? <;> simp
  · simp [hw, mt hwidth.mp hw]

theorem validColumns_rising (c : LaneSettings) (pixels : List Pixel) :
    (validColumns c pixels).Pairwise (fun a b => a.column < b.column) := validFrom_rising _ _

/-! ## Spot pixels (R80, R81) -/

theorem spotPixels_rising (deviation : ValidColumn → Option Nat) {cols : List ValidColumn}
    (h : cols.Pairwise (fun a b => a.column < b.column)) :
    (spotPixels deviation cols).Pairwise (fun a b => a.column < b.column) := by
  refine h.filterMap _ fun a b hab m hm n hn => ?_
  obtain ⟨d, -, rfl⟩ := Option.map_eq_some_iff.mp hm
  obtain ⟨e, -, rfl⟩ := Option.map_eq_some_iff.mp hn
  exact hab

theorem mem_spotPixels {deviation : ValidColumn → Option Nat} {cols : List ValidColumn} {m : SpotPixel}
    (h : m ∈ spotPixels deviation cols) : ∃ v ∈ cols, v.column = m.column ∧ (deviation v).isSome = true := by
  obtain ⟨v, hv, hm⟩ := List.mem_filterMap.mp h
  obtain ⟨d, hd, rfl⟩ := Option.map_eq_some_iff.mp hm
  exact ⟨v, hv, rfl, by rw [hd]; rfl⟩

/-- With the band in order a column is not both bright and dark. -/
theorem bright_not_dark {lo hi : Nat} (h : lo < hi) (bright dark : Nat) {v : ValidColumn}
    (hb : (brightDeviation hi bright v).isSome = true) : (darkDeviation lo dark v).isSome = false := by
  have hbright : v.saturated = true ∨ hi + bright < v.level := by
    by_contra hn
    rw [brightDeviation, if_neg hn] at hb
    exact absurd hb nofun
  refine (congrArg Option.isSome (if_neg ?_)).trans rfl
  rintro ⟨-, hs, hd⟩
  rcases hbright with hb | hb
  · rw [hs] at hb
    exact absurd hb nofun
  · omega

/-! ## Runs (R82, R83) -/

/-- A run holds these members: it has their first and last column, their number, their greatest deviation and their saturated
mark, and successive ones are neighbours. -/
structure Run.holds (tolerance lane : Nat) (polarity : Polarity) (r : Run) (g : List SpotPixel) : Prop where
  lane : r.lane = lane
  polarity : r.polarity = polarity
  pixels : r.pixels = g.length
  first : g.head?.map (·.column) = some r.first
  last : g.getLast?.map (·.column) = some r.last
  below : ∀ m ∈ g, m.deviation ≤ r.peak
  peak : ∃ m ∈ g, m.deviation = r.peak
  saturated : r.saturated = true ↔ ∃ m ∈ g, m.saturated = true
  near : ∀ (n : Nat) (a b : SpotPixel), g[n]? = some a → g[n + 1]? = some b → b.column ≤ a.column + 1 + tolerance

section
variable {tolerance lane : Nat} {polarity : Polarity}

theorem Run.holds_ofPixel (m : SpotPixel) : (Run.ofPixel lane polarity m).holds tolerance lane polarity [m] where
  lane := rfl
  polarity := rfl
  pixels := rfl
  first := rfl
  last := rfl
  below := by simp [Run.ofPixel]
  peak := by simp [Run.ofPixel]
  saturated := by simp [Run.ofPixel]
  near n a b _ hb := by simp at hb

/-- A neighbour to the right joins the run. -/
theorem Run.holds.extend {r : Run} {g : List SpotPixel} (h : r.holds tolerance lane polarity g) {m : SpotPixel}
    (hm : m.column ≤ r.last + 1 + tolerance) : (r.extend m).holds tolerance lane polarity (g ++ [m]) where
  lane := h.lane
  polarity := h.polarity
  pixels := by simp [Run.extend, h.pixels]
  first := by
    cases g with
    | nil => exact absurd h.first nofun
    | cons a g => exact h.first
  last := by simp [Run.extend]
  below n hn := by
    rw [List.mem_append, List.mem_singleton] at hn
    rcases hn with hn | rfl
    · exact le_max_of_le_left (h.below n hn)
    · exact le_max_right _ _
  peak := by
    obtain ⟨n, hn, hp⟩ := h.peak
    rcases le_total r.peak m.deviation with hle | hle
    · exact ⟨m, by simp, (max_eq_right hle).symm⟩
    · exact ⟨n, by simp [hn], hp.trans (max_eq_left hle).symm⟩
  saturated := by simp [Run.extend, h.saturated, or_and_right, exists_or]
  near n a b ha hb := by
    by_cases hn : n + 1 < g.length
    · rw [List.getElem?_append_left (by omega)] at ha hb
      exact h.near n a b ha hb
    · have hlen : n + 1 = g.length := by
        have := (List.getElem?_eq_some_iff.mp hb).1
        rw [List.length_append, List.length_singleton] at this
        omega
      have hlast : g.getLast? = some a := by
        rw [List.getLast?_eq_getElem?, ← hlen]
        rwa [List.getElem?_append_left (by omega)] at ha
      have hcol : a.column = r.last := by simpa [hlast] using h.last
      have hb' : m = b := by
        rw [hlen, List.getElem?_append_right le_rfl, Nat.sub_self] at hb
        exact Option.some.inj hb
      rw [← hb', hcol]
      exact hm

/-- The runs formed part the members so far and those to come. -/
theorem formRuns_groups {r : Run} {g : List SpotPixel} (ms : List SpotPixel) (h : r.holds tolerance lane polarity g) :
    ∃ groups, groups.flatten = g ++ ms ∧
      List.Forall₂ (Run.holds tolerance lane polarity) (formRuns tolerance lane polarity r ms) groups := by
  induction ms generalizing r g with
  | nil => exact ⟨[g], by simp, .cons h .nil⟩
  | cons m ms ih =>
    simp only [formRuns]
    split
    · next hm =>
      obtain ⟨groups, hflat, hall⟩ := ih (h.extend hm)
      exact ⟨groups, by rw [hflat, List.append_assoc]; rfl, hall⟩
    · obtain ⟨groups, hflat, hall⟩ := ih (Run.holds_ofPixel m)
      exact ⟨g :: groups, by rw [List.flatten_cons, hflat]; rfl, .cons h hall⟩

/-- A run begins with the run so far or at a member to come. -/
theorem formRuns_first {r q : Run} {ms : List SpotPixel} (h : q ∈ formRuns tolerance lane polarity r ms) :
    q.first = r.first ∨ ∃ m ∈ ms, q.first = m.column := by
  induction ms generalizing r with
  | nil =>
    rw [List.mem_singleton.mp h]
    exact .inl rfl
  | cons m ms ih =>
    have later (hq : ∃ n ∈ ms, q.first = n.column) : ∃ n ∈ m :: ms, q.first = n.column :=
      hq.imp fun n hn => ⟨List.mem_cons_of_mem _ hn.1, hn.2⟩
    simp only [formRuns] at h
    split at h
    · exact (ih h).imp_right later
    · rcases List.mem_cons.mp h with rfl | h
      · exact .inl rfl
      · rcases ih h with hq | hq
        · exact .inr ⟨m, List.mem_cons_self, hq⟩
        · exact .inr (later hq)

/-- The runs of rising members stand apart, and begin at rising columns. -/
theorem formRuns_apart {r : Run} {ms : List SpotPixel} (hr : r.first ≤ r.last) (hl : ∀ m ∈ ms, r.last < m.column)
    (h : ms.Pairwise (fun a b => a.column < b.column)) :
    (formRuns tolerance lane polarity r ms).Pairwise (fun a b => a.last + 1 + tolerance < b.first ∧ a.first < b.first) := by
  induction ms generalizing r with
  | nil => exact List.pairwise_singleton _ _
  | cons m ms ih =>
    obtain ⟨hm, hms⟩ := List.pairwise_cons.mp h
    have hlast := hl m List.mem_cons_self
    simp only [formRuns]
    split
    · exact ih (r := r.extend m) (by show r.first ≤ m.column; omega) hm hms
    · next hfar =>
      refine .cons (fun q hq => ?_) (ih (r := Run.ofPixel lane polarity m) le_rfl hm hms)
      have hq : m.column ≤ q.first := by
        rcases formRuns_first hq with hq | ⟨n, hn, hq⟩
        · exact Nat.le_of_eq hq.symm
        · exact hq ▸ Nat.le_of_lt (hm n hn)
      omega

theorem runsOf_groups (pixels : List SpotPixel) :
    ∃ groups, groups.flatten = pixels ∧
      List.Forall₂ (Run.holds tolerance lane polarity) (runsOf tolerance lane polarity pixels) groups := by
  cases pixels with
  | nil => exact ⟨[], rfl, .nil⟩
  | cons m ms => exact formRuns_groups ms (Run.holds_ofPixel m)

theorem runsOf_first {q : Run} {pixels : List SpotPixel} (h : q ∈ runsOf tolerance lane polarity pixels) :
    ∃ m ∈ pixels, q.first = m.column := by
  cases pixels with
  | nil => exact absurd h List.not_mem_nil
  | cons m ms =>
    rcases formRuns_first h with hq | ⟨n, hn, hq⟩
    · exact ⟨m, List.mem_cons_self, hq⟩
    · exact ⟨n, List.mem_cons_of_mem _ hn, hq⟩

theorem runsOf_apart {pixels : List SpotPixel} (h : pixels.Pairwise (fun a b => a.column < b.column)) :
    (runsOf tolerance lane polarity pixels).Pairwise
      (fun a b => a.last + 1 + tolerance < b.first ∧ a.first < b.first) := by
  cases pixels with
  | nil => exact .nil
  | cons m ms =>
    obtain ⟨hm, hms⟩ := List.pairwise_cons.mp h
    exact formRuns_apart le_rfl hm hms

end

end Sys2Proof.Machine
end

section
/-! PROOFS. SPD's stage: the lanes and their runs in order of first column, and the run limit. -/

namespace Sys2Proof.Machine

/-! ## Insertion by first column (R78, R84) -/

section
variable {α : Type} (key : α → Nat)

/-- An element takes its place, behind those of the same key. -/
def insertBy (a : α) : List α → List α
  | [] => [a]
  | q :: rest => if key a < key q then a :: q :: rest else q :: insertBy a rest

theorem insertBy_perm (a : α) (l : List α) : (insertBy key a l).Perm (a :: l) := by
  induction l with
  | nil => exact .refl _
  | cons q l ih =>
    simp only [insertBy]
    split
    · exact .refl _
    · exact (ih.cons q).trans (.swap a q l)

theorem insertBy_sorted (a : α) {l : List α} (h : l.Pairwise (fun a b => key a ≤ key b)) :
    (insertBy key a l).Pairwise (fun a b => key a ≤ key b) := by
  induction l with
  | nil => exact List.pairwise_singleton _ _
  | cons q l ih =>
    obtain ⟨hq, hl⟩ := List.pairwise_cons.mp h
    simp only [insertBy]
    split
    · next hlt =>
      refine .cons (fun b hb => ?_) h
      rcases List.mem_cons.mp hb with rfl | hb
      · exact Nat.le_of_lt hlt
      · exact Nat.le_trans (Nat.le_of_lt hlt) (hq b hb)
    · next hge =>
      refine .cons (fun b hb => ?_) (ih hl)
      rcases List.mem_cons.mp ((insertBy_perm key a l).mem_iff.mp hb) with rfl | hb
      · exact Nat.le_of_not_lt hge
      · exact hq b hb

theorem foldl_insertBy_perm (new l : List α) : (new.foldl (fun l a => insertBy key a l) l).Perm (l ++ new) := by
  induction new generalizing l with
  | nil => rw [List.append_nil]; exact .refl _
  | cons a new ih => exact (ih _).trans (((insertBy_perm key a l).append_right new).trans List.perm_middle.symm)

theorem foldl_insertBy_sorted (new : List α) {l : List α} (h : l.Pairwise (fun a b => key a ≤ key b)) :
    (new.foldl (fun l a => insertBy key a l) l).Pairwise (fun a b => key a ≤ key b) := by
  induction new generalizing l with
  | nil => exact h
  | cons a new ih => exact ih (insertBy_sorted key a h)

/-- Sorted keys that do not repeat rise strictly. -/
theorem rising_of_sorted {l : List α} (h : l.Pairwise (fun a b => key a ≤ key b)) (hn : (l.map key).Nodup) :
    l.Pairwise (fun a b => key a < key b) :=
  (List.pairwise_map.mp hn).imp₂ (fun _ _ hne hle => Nat.lt_of_le_of_ne hle hne) h

end

theorem insertRun_eq (r : Run) (l : List Run) : insertRun r l = insertBy Run.first r l := by
  induction l with
  | nil => rfl
  | cons q l ih => rw [insertRun, insertBy, ih]

theorem insertLane_eq (e : Nat × LaneSettings) (l : List (Nat × LaneSettings)) :
    insertLane e l = insertBy (fun e => e.2.first) e l := by
  induction l with
  | nil => rfl
  | cons q l ih => rw [insertLane, insertBy, ih]

/-! ## The lanes of the line (R78) -/

theorem mem_inspectedLanes {s : State} {sl : Slot} {e : Nat × LaneSettings} :
    e ∈ inspectedLanes s sl ↔
      ∃ o ∈ sl.outcomes, o.result = .inspected ∧ o.lane = e.1 ∧ (lane s e.1).settings = some e.2 := by
  simp only [inspectedLanes, insertLane_eq]
  rw [(foldl_insertBy_perm _ _ _).mem_iff, List.nil_append, List.mem_filterMap]
  refine exists_congr fun o => and_congr_right fun _ => ?_
  rw [Option.ite_none_right_eq_some, Option.map_eq_some_iff]
  refine and_congr_right fun _ => ⟨?_, ?_⟩
  · rintro ⟨c, hc, rfl⟩
    exact ⟨rfl, hc⟩
  · rintro ⟨hl, hc⟩
    exact ⟨e.2, hl ▸ hc, by rw [hl]⟩

theorem inspectedLanes_sorted (s : State) (sl : Slot) :
    (inspectedLanes s sl).Pairwise (fun a b => a.2.first ≤ b.2.first) := by
  simp only [inspectedLanes, insertLane_eq]
  exact foldl_insertBy_sorted _ _ .nil

/-! ## The runs of a lane (R84) -/

section
variable (t : Spd) (i : Nat) (c : LaneSettings) (pixels : List Pixel)

/-- The bright runs of a lane. -/
def Spd.brightRuns : List Run :=
  runsOf t.gapTolerance i .bright (spotPixels (brightDeviation c.hi t.brightMargin) (validColumns c pixels))

/-- The dark runs of a lane. -/
def Spd.darkRuns : List Run :=
  runsOf t.gapTolerance i .dark (spotPixels (darkDeviation c.lo t.darkMargin) (validColumns c pixels))

theorem laneRuns_eq :
    laneRuns t i c pixels = (t.darkRuns i c pixels).foldl (fun l r => insertBy Run.first r l) (t.brightRuns i c pixels) := by
  simp only [laneRuns, insertRun_eq]
  rfl

theorem laneRuns_perm : (laneRuns t i c pixels).Perm (t.brightRuns i c pixels ++ t.darkRuns i c pixels) := by
  rw [laneRuns_eq]
  exact foldl_insertBy_perm ..

/-- The runs of one polarity begin at rising valid columns that are spot pixels. -/
theorem runsOf_spotPixels (tolerance : Nat) (polarity : Polarity) (deviation : ValidColumn → Option Nat) :
    (runsOf tolerance i polarity (spotPixels deviation (validColumns c pixels))).Pairwise (fun a b => a.first < b.first) ∧
      ∀ q ∈ runsOf tolerance i polarity (spotPixels deviation (validColumns c pixels)),
        ∃ v ∈ validColumns c pixels, v.column = q.first ∧ (deviation v).isSome = true := by
  refine ⟨(runsOf_apart (spotPixels_rising _ (validColumns_rising c pixels))).imp And.right, fun q hq => ?_⟩
  obtain ⟨m, hm, hf⟩ := runsOf_first hq
  obtain ⟨v, hv, hcol, hd⟩ := mem_spotPixels hm
  exact ⟨v, hv, hcol.trans hf.symm, hd⟩

/-- With the band in order no bright run begins where a dark one does. -/
theorem laneRuns_rising (h : c.lo < c.hi) : (laneRuns t i c pixels).Pairwise (fun a b => a.first < b.first) := by
  obtain ⟨hbright, hbv⟩ := runsOf_spotPixels i c pixels t.gapTolerance .bright (brightDeviation c.hi t.brightMargin)
  obtain ⟨hdark, hdv⟩ := runsOf_spotPixels i c pixels t.gapTolerance .dark (darkDeviation c.lo t.darkMargin)
  refine rising_of_sorted Run.first ?_ ?_
  · rw [laneRuns_eq]
    exact foldl_insertBy_sorted Run.first _ (hbright.imp Nat.le_of_lt)
  · rw [((laneRuns_perm t i c pixels).map Run.first).nodup_iff, List.map_append]
    refine List.Nodup.append (List.pairwise_map.mpr (hbright.imp Nat.ne_of_lt)) (List.pairwise_map.mpr (hdark.imp Nat.ne_of_lt))
      fun k hk hk' => ?_
    obtain ⟨q, hq, rfl⟩ := List.mem_map.mp hk
    obtain ⟨r, hr, hqr⟩ := List.mem_map.mp hk'
    obtain ⟨v, hv, hvq, hvb⟩ := hbv q hq
    obtain ⟨w, hw, hwr, hwd⟩ := hdv r hr
    have hcols : ((validColumns c pixels).map (·.column)).Nodup :=
      List.pairwise_map.mpr ((validColumns_rising c pixels).imp Nat.ne_of_lt)
    have hsame : v = w := List.inj_on_of_nodup_map hcols hv hw (hvq.trans (hqr.symm.trans hwr.symm))
    rw [← hsame, bright_not_dark h t.brightMargin t.darkMargin hvb] at hwd
    exact absurd hwd nofun

end

/-! ## The stage (R84 to R89) -/

/-- The runs of the line before the limit. -/
def State.lineRuns (s : State) (sl : Slot) : List Run :=
  (inspectedLanes s sl).flatMap (fun e => laneRuns s.spd e.1 e.2 sl.pixels)

/-- The part with the line past SPD, its slot and the run statistics as given. -/
def State.spdPassed (s : State) (p : Processing) (sl : Slot) (spd : Spd) : State :=
  { s with
    spd := spd
    las := { s.las with processing := some { p with spd := true }, slots := s.las.slots.set p.slot sl } }

/-- The part with SPD's work on a line done: the first 256 runs are kept, and the statistics are those of the line. -/
def State.spdDone (s : State) (p : Processing) (number : Nat) (runs : List Run) : State :=
  s.spdPassed p { s.las.slot p.slot with runs := runs.take 256 }
    (s.spd.finishLine number (runs.take 256).length (runs.drop 256).length)

section
variable {s : State} {p : Processing} (hp : s.las.processing = some p) (hl : p.lnc = true) (hspd : p.spd = false)
include hp hl hspd

theorem spdStage_kept (hs : s.ict.state ≠ .faulted) (hd : (s.lineRuns (s.las.slot p.slot)).drop 256 = []) :
    spdStage s = s.spdDone p (s.las.slot p.slot).number (s.lineRuns (s.las.slot p.slot)) := by
  rw [State.lineRuns] at hd
  unfold spdStage
  rw [hp]
  dsimp only
  rw [if_neg (by simp [hl, hspd])]
  simp only [Config.runLimit, hd, unlessFaulted_eq hs, State.spdDone, State.lineRuns]
  rfl

theorem spdStage_overflows {r : Run} {rest : List Run} (hd : (s.lineRuns (s.las.slot p.slot)).drop 256 = r :: rest) :
    spdStage s =
      (overflow p.slot r s).unlessFaulted fun u =>
        u.spdDone p (s.las.slot p.slot).number (s.lineRuns (s.las.slot p.slot)) := by
  rw [State.lineRuns] at hd
  unfold spdStage
  rw [hp]
  dsimp only
  rw [if_neg (by simp [hl, hspd])]
  simp only [Config.runLimit, hd, State.spdDone, State.lineRuns]
  rfl

end

/-- RUN_OVERFLOW marks the line under MARK and STOP, and is counted (R85, R86). -/
theorem overflow_taken {s : State} {i : Nat} (hi : i < s.las.slots.length) (r : Run) (ht : s.takes .runOverflow) :
    overflow i r s =
      (s.setSlot i
        { s.las.slot i with degraded := (s.las.slot i).degraded || (s.ict.action .runOverflow).marks }).withOccurrence
        .runOverflow (some r.lane) (some (s.las.slot i).number) := by
  simp only [overflow]
  cases (s.ict.action .runOverflow).marks with
  | true =>
    have hat : (s.setSlot i { s.las.slot i with degraded := true }).las.slot i = { s.las.slot i with degraded := true } :=
      Las.slot_setSlot_same s i _ hi
    rw [if_pos rfl, hat, Bool.or_true]
    exact occur_of_takes _ .runOverflow _ _ ht
  | false =>
    have hself : ({ s.las.slot i with degraded := (s.las.slot i).degraded || false } : Slot) = s.las.slot i := by
      rw [Bool.or_false]
    rw [if_neg Bool.false_ne_true, hself, State.setSlot_self]
    exact occur_of_takes _ .runOverflow _ _ ht

/-- An occurrence neither reads nor changes LAS and SPD. -/
theorem State.withOccurrence_setSpd (s : State) (src : Source) (d l : Option Nat) (las : Las) (spd : Spd) :
    State.withOccurrence { s with las := las, spd := spd } src d l =
      { s.withOccurrence src d l with las := las, spd := spd } := by
  simp only [State.withOccurrence]
  split <;> rfl

theorem State.withOccurrence_spdPassed (s : State) (src : Source) (d l : Option Nat) (p : Processing) (sl : Slot) (spd : Spd) :
    (s.withOccurrence src d l).spdPassed p sl spd = (s.spdPassed p sl spd).withOccurrence src d l := by
  simp only [State.spdPassed, State.withOccurrence_las]
  exact (State.withOccurrence_setSpd ..).symm

@[simp] theorem State.withOccurrence_spd (s : State) (src : Source) (d l : Option Nat) :
    (s.withOccurrence src d l).spd = s.spd := by
  obtain ⟨_, _, h, -⟩ := s.withOccurrence_eq src d l
  rw [h]

/-- The slot that a line past SPD leaves stands alone. -/
theorem State.spdPassed_setSlot (s : State) (p : Processing) (sl new : Slot) (spd : Spd) :
    (s.setSlot p.slot sl).spdPassed p new spd = s.spdPassed p new spd := by
  simp [State.spdPassed, State.setSlot]

/-- A line past SPD is still in processing. -/
theorem State.nothingDue_spdPassed (s : State) (p : Processing) (sl : Slot) (spd : Spd) : (s.spdPassed p sl spd).nothingDue :=
  State.nothingDue_of_line (p := { p with spd := true }) rfl

end Sys2Proof.Machine

namespace Sys2Proof.Spots

open Sys2Proof.Machine

/-- Settles O48: with at most 256 runs the line's runs are kept as they are, and with more one RUN_OVERFLOW is taken first; the
lanes and the runs of a lane are sorted by insertion, and the runs of a polarity part its spot pixels. -/
theorem spdStage : Obligations.SpdStage := by
  refine ⟨fun s p h hp hl hspd hs hslot => ?_, fun s sl => ⟨fun e => mem_inspectedLanes, inspectedLanes_sorted s sl⟩,
    fun c pixels => ⟨validColumns_rising c pixels, fun v => mem_validColumns⟩,
    fun t i c pixels hband => ⟨laneRuns_perm t i c pixels, laneRuns_rising t i c pixels hband⟩,
    fun tolerance lane polarity pixels hrise => ?_⟩
  · intro sl runs finished
    refine ⟨fun hfew => ?_, fun r hr ht => ?_⟩
    · have hdrop : runs.drop 256 = [] := List.drop_eq_nil_of_le hfew
      have hkept : (runs.take 256).length = runs.length := congrArg List.length (List.take_of_length_le hfew)
      refine inService_of_unposted _ h ((spdStage_kept hp hl hspd hs hdrop).trans ?_) rfl rfl (State.nothingDue_spdPassed ..)
      rw [State.spdDone, show s.lineRuns (s.las.slot p.slot) = runs from rfl, hkept, hdrop]
      rfl
    · have hmany : 256 < runs.length := (List.getElem?_eq_some_iff.mp hr).1
      have hdrop : runs.drop 256 = r :: runs.drop 257 := by
        rw [List.drop_eq_getElem_cons hmany, (List.getElem?_eq_some_iff.mp hr).2]
      have hmarks : (sl.degraded || (s.ict.action .runOverflow).marks) =
          (sl.degraded || s.ict.action .runOverflow == .mark || s.ict.action .runOverflow == .stop) := by
        rw [Bool.or_assoc]
        cases s.ict.action .runOverflow <;> rfl
      have hread (d : Bool) : (s.setSlot p.slot { sl with degraded := d }).las.slot p.slot = { sl with degraded := d } :=
        Las.slot_setSlot_same s p.slot _ hslot
      have hkept : (runs.take 256).length = 256 := by rw [List.length_take]; omega
      refine inService_of_posted _ h ((spdStage_overflows hp hl hspd hdrop).trans ?_) (State.withOccurrence_lnk ..)
        (State.nothingDue_withOccurrence (State.nothingDue_spdPassed ..) ..)
      rw [overflow_taken hslot r ht, unlessFaulted_eq (by rw [State.withOccurrence_state]; exact hs), State.spdDone,
        State.withOccurrence_spdPassed, State.withOccurrence_las, State.withOccurrence_spd, hread, State.spdPassed_setSlot,
        show s.lineRuns (s.las.slot p.slot) = runs from rfl, hkept, List.length_drop, hmarks, Spd.finishLine,
        if_pos (Nat.sub_pos_of_lt hmany), if_pos (Nat.sub_pos_of_lt hmany)]
      rfl
  · intro runs
    obtain ⟨groups, hflat, hall⟩ := runsOf_groups (tolerance := tolerance) (lane := lane) (polarity := polarity) pixels
    refine ⟨(runsOf_apart hrise).imp And.left, groups, hflat, hall.length_eq.symm, fun k g r hg hr => ?_⟩
    obtain ⟨hk, rfl⟩ := List.getElem?_eq_some_iff.mp hr
    obtain ⟨hk', rfl⟩ := List.getElem?_eq_some_iff.mp hg
    have hrun : (runs[k]).holds tolerance lane polarity groups[k] := (List.forall₂_iff_get.mp hall).2 k hk hk'
    exact ⟨hrun.lane, hrun.polarity, hrun.pixels, hrun.first, hrun.last, hrun.below, hrun.peak, hrun.saturated, hrun.near⟩

end Sys2Proof.Spots
end

section
/-! PROOFS. One finding of a line: the tracks it matches, the oldest of them, the merge, and the allocation that fails. -/

namespace Sys2Proof.Machine

/-! ## Matching (R110, R112) -/

theorem Track.matches_iff (t : Track) (f : Finding) :
    t.matches f = true ↔ t.state = .open ∧ t.lane = f.lane ∧ t.polarity = f.polarity ∧ f.span.lo ≤ t.matchSpan.hi + 1 ∧
      t.matchSpan.lo ≤ f.span.hi + 1 ∧ t.takes f = true := by
  simp only [Track.matches, Bool.and_eq_true, beq_iff_eq, decide_eq_true_eq]
  tauto

theorem mem_matchingIds {f : Finding} {s : State} {n : Nat} :
    n ∈ matchingIds f s ↔ n < 64 ∧ (s.track n).matches f = true := by
  rw [matchingIds, List.mem_filter, List.mem_range]

theorem matchingIds_rising (f : Finding) (s : State) : (matchingIds f s).Pairwise (· < ·) := List.pairwise_lt_range.filter _

/-- A track that matches is OPEN, so its slot is one of the table. -/
theorem lt_of_matches {f : Finding} {s : State} {n : Nat} (h : (s.track n).matches f = true) : n < s.trk.slots.length := by
  by_contra hn
  rw [Track.matches_iff, State.track_of_le (Nat.le_of_not_lt hn)] at h
  exact absurd h.1 nofun

section
variable {s : State} (hs : s.ict.state ≠ .faulted) (sl : Slot) {f : Finding}
include hs

theorem takeFinding_unmatched (h : ∀ n, n ∉ matchingIds f s) : takeFinding sl s f = openFor sl f s := by
  rw [takeFinding, unlessFaulted_eq hs, List.eq_nil_iff_forall_not_mem.mpr h]

theorem takeFinding_matched {first : Nat} {others : List Nat} (h : matchingIds f s = first :: others) :
    takeFinding sl s f = joinMatches f first others s := by
  rw [takeFinding, unlessFaulted_eq hs, h]

/-- A finding that matches one track joins it. -/
theorem takeFinding_one {id : Nat} (h : ∀ n, n ∈ matchingIds f s ↔ n = id) :
    takeFinding sl s f = s.setTrack id ((s.track id).join f) := by
  have hone : matchingIds f s = [id] :=
    rising_eq (matchingIds_rising f s) (List.pairwise_singleton _ _) fun n => (h n).trans List.mem_singleton.symm
  rw [takeFinding_matched hs sl hone]
  simp [joinMatches, oldest]

end

/-! ## The oldest of the tracks (R111) -/

/-- Track `a` is older than track `b`: its first line is earlier, or the same and its id lower. -/
def State.older (s : State) (a b : Nat) : Prop :=
  (s.track a).firstLine < (s.track b).firstLine ∨ ((s.track a).firstLine = (s.track b).firstLine ∧ a < b)

theorem oldest_eq {s : State} {v best : Nat} {ids : List Nat} (hv : v ∈ best :: ids) (hr : (best :: ids).Pairwise (· < ·))
    (ho : ∀ n ∈ best :: ids, n ≠ v → s.older v n) : oldest s best ids = v := by
  induction ids generalizing best with
  | nil => exact (List.mem_singleton.mp hv).symm
  | cons id ids ih =>
    obtain ⟨hbest, hids⟩ := List.pairwise_cons.mp hr
    obtain ⟨hid, hrest⟩ := List.pairwise_cons.mp hids
    have hlt : best < id := hbest id List.mem_cons_self
    have keepBest (hv : v ∈ best :: ids) : oldest s best ids = v :=
      ih hv (.cons (fun n hn => hbest n (List.mem_cons_of_mem _ hn)) hrest) fun n hn =>
        ho n (by rcases List.mem_cons.mp hn with rfl | hn <;> simp [*])
    have takeId (hv : v ∈ id :: ids) : oldest s id ids = v := ih hv hids fun n hn => ho n (List.mem_cons_of_mem _ hn)
    rw [oldest]
    rcases List.mem_cons.mp hv with rfl | hv
    · have := ho id (by simp) (Nat.ne_of_gt hlt)
      rw [if_neg (by rcases this with h | h <;> omega)]
      exact keepBest List.mem_cons_self
    · rcases List.mem_cons.mp hv with rfl | hv
      · have := ho best (by simp) (Nat.ne_of_lt hlt)
        rw [if_pos (by rcases this with h | h <;> omega)]
        exact takeId List.mem_cons_self
      · split
        · exact takeId (List.mem_cons_of_mem _ hv)
        · exact keepBest (List.mem_cons_of_mem _ hv)

/-! ## The merge (R111) -/

/-- The slots with some of them FREE. -/
def freed (ids : List Nat) (slots : List Track) : List Track := ids.foldl (fun l n => l.set n Track.blank) slots

/-- The survivor with the tracks of some ids folded in, one after another. -/
def State.absorbed (s : State) (v : Nat) (ids : List Nat) : Track :=
  ids.foldl (fun t n => t.absorb (s.track n)) (s.track v)

theorem freed_length (ids : List Nat) (slots : List Track) : (freed ids slots).length = slots.length := by
  induction ids generalizing slots with
  | nil => rfl
  | cons n ids ih => exact (ih _).trans List.length_set

theorem freed_set {v : Nat} {ids : List Nat} (h : v ∉ ids) (slots : List Track) (t : Track) :
    freed ids (slots.set v t) = (freed ids slots).set v t := by
  induction ids generalizing slots with
  | nil => rfl
  | cons n ids ih =>
    obtain ⟨hn, hids⟩ := not_or.mp (mt List.mem_cons.mpr h)
    rw [freed, List.foldl_cons, List.set_comm _ _ hn]
    exact ih hids _

theorem mergeInto_eq {v n : Nat} (h : n ≠ v) (s : State) :
    mergeInto v s n =
      { s with
        trk := { s.trk with
          freeList := s.trk.freeList ++ [n]
          slots := (s.trk.slots.set v ((s.track v).absorb (s.track n))).set n Track.blank }
        cls := { s.cls with pool := s.cls.pool ++ (s.track n).clip.blocks } } := by
  simp only [mergeInto, State.freeTrack, State.track_setTrack_other s v n _ h]
  rfl

theorem track_mergeInto {v n : Nat} {s : State} (hv : v < s.trk.slots.length) (m : Nat) (hm : m ≠ n) :
    (mergeInto v s n).track m = if m = v then (s.track v).absorb (s.track n) else s.track m := by
  rw [mergeInto, State.track_freeTrack, if_neg hm, State.track_setTrack]
  simp only [hv, and_true]

/-- The others are folded into the survivor and freed, in the order given. -/
theorem foldl_mergeInto {v : Nat} {ids : List Nat} {s : State} (hv : v < s.trk.slots.length) (hn : ids.Nodup) (h : v ∉ ids) :
    ids.foldl (mergeInto v) s =
      { s with
        trk := { s.trk with
          freeList := s.trk.freeList ++ ids, slots := (freed ids s.trk.slots).set v (s.absorbed v ids) }
        cls := { s.cls with pool := s.cls.pool ++ ids.flatMap (fun n => (s.track n).clip.blocks) } } := by
  induction ids generalizing s with
  | nil =>
    have hself : s.trk.slots.set v (s.track v) = s.trk.slots := by simp [State.track, Trk.slot, List.getD, hv]
    simp only [List.foldl_nil, State.absorbed, freed, hself, List.flatMap_nil, List.append_nil]
  | cons n ids ih =>
    obtain ⟨hnv, hids⟩ := not_or.mp (mt List.mem_cons.mpr h)
    obtain ⟨hnot, hnodup⟩ := List.nodup_cons.mp hn
    have hother (m : Nat) (hm : m ∈ ids) : (mergeInto v s n).track m = s.track m := by
      rw [track_mergeInto hv m fun he : m = n => hnot (he ▸ hm), if_neg fun he : m = v => hids (he ▸ hm)]
    have hsurvivor : (mergeInto v s n).track v = (s.track v).absorb (s.track n) := by
      rw [track_mergeInto hv v hnv, if_pos rfl]
    have habsorbed : (mergeInto v s n).absorbed v ids = s.absorbed v (n :: ids) := by
      rw [State.absorbed, hsurvivor]
      exact List.foldl_ext _ _ _ fun t m hm => by rw [hother m hm]
    have hblocks : ids.flatMap (fun m => ((mergeInto v s n).track m).clip.blocks) =
        ids.flatMap (fun m => (s.track m).clip.blocks) :=
      List.flatMap_congr fun m hm => by rw [hother m hm]
    have hslots : (freed ids (mergeInto v s n).trk.slots).set v (s.absorbed v (n :: ids)) =
        (freed (n :: ids) s.trk.slots).set v (s.absorbed v (n :: ids)) := by
      rw [mergeInto_eq (Ne.symm hnv)]
      dsimp only
      rw [List.set_comm _ _ hnv, freed_set hids, List.set_set]
      rfl
    have hlen : v < (mergeInto v s n).trk.slots.length := by
      rw [mergeInto_eq (Ne.symm hnv)]
      simpa using hv
    rw [List.foldl_cons, ih hlen hnodup hids, habsorbed, hblocks, hslots, mergeInto_eq (Ne.symm hnv)]
    simp only [List.append_assoc, List.singleton_append, List.flatMap_cons]

/-- A finding that matches several tracks joins the oldest of them, into which the others have been folded. -/
theorem takeFinding_merges {s : State} (hs : s.ict.state ≠ .faulted) (sl : Slot) {f : Finding} {v : Nat} {ids : List Nat}
    (hv : v ∈ matchingIds f s) (hr : ids.Pairwise (· < ·)) (hids : ∀ n, n ∈ ids ↔ n ∈ matchingIds f s ∧ n ≠ v)
    (ho : ∀ n ∈ ids, s.older v n) :
    takeFinding sl s f =
      { s with
        trk := { s.trk with
          freeList := s.trk.freeList ++ ids
          slots := (freed ids s.trk.slots).set v ((s.absorbed v ids).join f) }
        cls := { s.cls with pool := s.cls.pool ++ ids.flatMap (fun n => (s.track n).clip.blocks) } } := by
  have hlt : v < s.trk.slots.length := lt_of_matches (mem_matchingIds.mp hv).2
  cases hm : matchingIds f s with
  | nil => exact absurd hv (by rw [hm]; exact List.not_mem_nil)
  | cons first others =>
    have hrise : (first :: others).Pairwise (· < ·) := hm ▸ matchingIds_rising f s
    have hoff : (first :: others).filter (· ≠ v) = ids :=
      rising_eq (hrise.filter _) hr fun n => by rw [hids, hm, List.mem_filter, decide_eq_true_eq]
    have hold : oldest s first others = v :=
      oldest_eq (hm ▸ hv) hrise fun n hn hne => ho n ((hids n).mpr ⟨hm ▸ hn, hne⟩)
    have hnot : v ∉ ids := fun h => ((hids v).mp h).2 rfl
    have hread (u : Track) : (((freed ids s.trk.slots).set v u).getD v Track.blank) = u := by
      simp [List.getD, freed_length, hlt]
    rw [takeFinding_matched hs sl hm, joinMatches, hold]
    dsimp only
    rw [hoff, foldl_mergeInto hlt hr.nodup hnot]
    simp only [State.setTrack, State.track, Trk.slot, hread, List.set_set]

/-! ## The allocation that fails (R113) -/

theorem openFor_free {s : State} (sl : Slot) (f : Finding) {id : Nat} {rest : List Nat} (h : s.trk.freeList = id :: rest) :
    openFor sl f s =
      { s with
        trk := { s.trk with
          freeList := rest
          slots := s.trk.slots.set id (Track.opening sl f (s.trk.inspected.getD f.lane 0) (s.trk.keepFor f)) } } := by
  simp only [openFor, h]
  rfl

theorem openFor_full {s : State} (sl : Slot) (f : Finding) (h : s.trk.freeList = []) :
    openFor sl f s = failAllocation sl f s := by
  simp only [openFor, h]

/-- An occurrence neither reads nor changes TRK. -/
theorem State.withOccurrence_setTrk (s : State) (src : Source) (d l : Option Nat) (trk : Trk) :
    State.withOccurrence { s with trk := trk } src d l = { s.withOccurrence src d l with trk := trk } := by
  simp only [State.withOccurrence]
  split <;> rfl

@[simp] theorem State.withOccurrence_lnc (s : State) (src : Source) (d l : Option Nat) :
    (s.withOccurrence src d l).lnc = s.lnc := by
  obtain ⟨_, _, h, -⟩ := s.withOccurrence_eq src d l
  rw [h]

/-- The part with one failed allocation counted, and one more finding left untracked or not. -/
def State.allocationFailed (s : State) (lane untracked : Nat) : State :=
  State.withOccurrence
    { s with trk := { s.trk with failures := min (s.trk.failures + 1) 65535, untracked := untracked } }
    .tableFull (some lane) none

/-- The patch number of a lane's outcome on the line, 0 without one. -/
theorem Slot.patchOf_eq (sl : Slot) (lane : Nat) :
    sl.patchOf lane = ((sl.outcomes.find? (fun o => o.lane = lane)).map (·.patchNumber)).getD 0 := by
  simp only [Slot.patchOf, Slot.outcomeOf]
  cases sl.outcomes.find? (fun o => o.lane = lane) <;> rfl

theorem State.allocationFailed_state (s : State) (lane untracked : Nat) :
    (s.allocationFailed lane untracked).ict.state = s.ict.state := State.withOccurrence_state ..

theorem State.allocationFailed_trk (s : State) (lane untracked : Nat) :
    (s.allocationFailed lane untracked).trk =
      { s.trk with failures := min (s.trk.failures + 1) 65535, untracked := untracked } := State.withOccurrence_trk ..

section
variable {s : State} (hs : s.ict.state ≠ .faulted) (ht : s.takes .tableFull) (sl : Slot)

include ht in
theorem occur_tableFull (lane : Nat) :
    occur .tableFull (some lane) none { s with trk := { s.trk with failures := satAdd Config.top16 s.trk.failures 1 } } =
      s.allocationFailed lane s.trk.untracked := occur_of_takes _ .tableFull _ _ ht

include hs ht

/-- An alert run that finds no slot is a failed allocation and nothing more. -/
theorem failAllocation_alert (a : AlertRun) :
    failAllocation sl (.alert a) s = s.allocationFailed a.lane s.trk.untracked := by
  rw [failAllocation, occur_tableFull ht, unlessFaulted_eq (by rw [State.allocationFailed_state]; exact hs)]
  rfl

/-- A run of at least the minimum area is counted as untracked, and as a spot of its patch, and reported. -/
theorem failAllocation_run (r : Run) :
    failAllocation sl (.run r) s =
      if s.trk.minArea ≤ r.pixels then
        post (.spot (untrackedReport sl r)) none
          (countSpot r.lane (sl.patchOf r.lane) (s.allocationFailed r.lane (min (s.trk.untracked + 1) 65535)))
      else s.allocationFailed r.lane s.trk.untracked := by
  have huntracked : s.allocationFailed r.lane (min (s.trk.untracked + 1) 65535) =
      { s.allocationFailed r.lane s.trk.untracked with
        trk := { s.trk with
          failures := min (s.trk.failures + 1) 65535, untracked := min (s.trk.untracked + 1) 65535 } } := by
    simp only [State.allocationFailed, State.withOccurrence_setTrk]
  rw [failAllocation, occur_tableFull ht, unlessFaulted_eq (by rw [State.allocationFailed_state]; exact hs), huntracked]
  dsimp only
  rw [State.allocationFailed_trk]
  rfl

end

end Sys2Proof.Machine

namespace Sys2Proof.Findings

open Sys2Proof.Machine

/-- Settles O51: the findings' matches decide between an opening, a failed allocation, one join, and a merge into the oldest. -/
theorem findingTaken : Obligations.FindingTaken := by
  intro s sl f hs matched
  have hmatched (n : Nat) : n ∈ matchingIds f s ↔ matched n := by
    rw [mem_matchingIds, Track.matches_iff]
    refine and_congr_right fun _ => and_congr_right fun _ => and_congr_right fun _ => and_congr_right fun _ =>
      and_congr_right fun _ => and_congr_right fun _ => ?_
    cases f <;> simp [Track.takes]
  have hunmatched (h : ∀ n, ¬matched n) : takeFinding sl s f = openFor sl f s :=
    takeFinding_unmatched hs sl fun n hn => h n ((hmatched n).mp hn)
  refine ⟨fun id rest hno hfree => ?_, fun id hid hone => ?_, fun hno hfull ht hsmall => ?_, fun r hf hno hfull ht hlarge => ?_,
    fun v absorbed hv hne hrise hids ho => ?_⟩
  · rw [hunmatched hno, openFor_free sl f hfree]
    cases f <;> rfl
  · intro t
    rw [takeFinding_one hs sl fun n => (hmatched n).trans ⟨hone n, fun h => h ▸ hid⟩]
    refine congrArg (s.setTrack id) ?_
    cases f with
    | run r =>
      simp only [Track.join]
      congr 1
      · cases t.peakDeviation <;> rfl
      · cases t.joined <;> rfl
    | alert a =>
      simp only [Track.join]
      congr 1
      · cases t.origin <;> rfl
      · cases t.peakAccumulator <;> rfl
      · cases t.joined <;> rfl
  · rw [hunmatched hno, openFor_full sl f hfull]
    cases f with
    | alert a => exact failAllocation_alert hs ht sl a
    | run r =>
      rw [failAllocation_run hs ht sl r, if_neg (Nat.not_le.mpr (hsmall r rfl))]
      rfl
  · intro patchNumber u l up counted hroom
    subst hf
    have hpatch : sl.patchOf r.lane = patchNumber := Slot.patchOf_eq sl r.lane
    have hcounted : countSpot r.lane patchNumber (s.allocationFailed r.lane (min (s.trk.untracked + 1) 65535)) = counted := by
      have hlnc : u.lnc = s.lnc := State.withOccurrence_lnc ..
      have hlane : lane u r.lane = l := by simp only [lane, hlnc, l]
      show countSpot r.lane patchNumber u = counted
      simp only [countSpot, hlane, State.setLane, hlnc]
      rfl
    have hspot : counted.room .spot := by
      simp only [counted]
      split <;> exact hroom
    rw [hunmatched hno, openFor_full sl _ hfull, failAllocation_run hs ht sl r, if_pos hlarge, hpatch, hcounted,
      post_room counted (.spot (untrackedReport sl r)) none hspot]
    rw [← hpatch]
    rfl
  · intro unite uniteJoined greater fold w joins
    have hmerged := takeFinding_merges hs sl ((hmatched v).mpr hv) hrise (fun n => by rw [hids, hmatched]) ho
    have hjoined (a b : Option Span) : uniteJoined a b = Machine.uniteJoined a b := by cases a <;> cases b <;> rfl
    have hgreater (a b : Option Nat) : greater a b = maxPresent a b := by cases a <;> cases b <;> rfl
    have hfold (t a : Track) : fold t a = t.absorb a := by
      simp only [fold, hjoined, hgreater, Track.absorb]
      congr 1
      · cases t.kind <;> cases a.kind <;> rfl
      · simp only [Track.established, Bool.and_assoc]
        cases t.kind <;> cases a.kind <;> rfl
    have hw : w = s.absorbed v absorbed := by simp only [w, hfold]; rfl
    have hjoin : joins = (s.absorbed v absorbed).join f := by
      rw [← hw]
      simp only [joins, hjoined, hgreater]
      cases f with
      | run r => rfl
      | alert a =>
        simp only [Track.join]
        congr 1
        cases w.origin <;> rfl
    rw [hmerged, hjoin]
    rfl

end Sys2Proof.Findings
end

section
/-! PROOFS. SET_SPOT and SET_STREAK: the checks of their fields, the settings an accepted one puts in force, and the answer. -/

namespace Sys2Proof.Machine

/-! ## Settings taken in STOPPED (Table LXVII), and the fields that carry them (R170) -/

/-- A request of STOPPED alone whose block loads its settings and answers. -/
theorem exec_rowOf_loaded {s t : State} (h : s.listening) (hs : s.ict.state = .stopped) {r : Request} (hr : r ∈ stoppedOnly)
    {tag : Byte} {f : List Nat} (hf : fitsWidths r.fieldWidths f) {b : ReplyBody}
    (ht : handle r tag (fieldBytes r.fieldWidths f) s = t.withReply tag b) (hl : t.lnk = s.lnk) (hi : t.ict = s.ict) :
    exec (rowOf r tag f) s = .next (t.withReply tag b).sends :=
  exec_rowOf_handled h (by rw [hs, (refusedByState_stoppedOnly hr).1]) (ne_loadTable_of_stoppedOnly hr) tag hf ht
    (h.rests_stopped hl (by rw [hi, hs]) tag b)

theorem fitsWidths_nil : fitsWidths [] [] := ⟨rfl, by simp⟩

theorem fitsWidths_cons_iff {w v : Nat} {ws vs : List Nat} :
    fitsWidths (w :: ws) (v :: vs) ↔ v < 256 ^ w ∧ fitsWidths ws vs := by
  simp only [fitsWidths, List.length_cons, Nat.add_right_cancel_iff, List.zip_cons_cons, List.forall_mem_cons]
  exact and_left_comm

/-! ## SET_SPOT (R76, R77, Table XXXIII) -/

/-- The ranges of the eight fields, written out. -/
theorem setSpotChecks_eq (f : List Nat) : setSpotChecks f =
    [decide (f.getD 0 0 ≤ 1023), decide (f.getD 1 0 ≤ 1023), decide (f.getD 2 0 ≤ 3), decide (f.getD 3 0 ≤ 2),
      decide (1 ≤ f.getD 4 0 ∧ f.getD 4 0 ≤ 65535), decide (f.getD 5 0 = 0 ∨ (8 ≤ f.getD 5 0 ∧ f.getD 5 0 ≤ 4096)),
      decide (1 ≤ f.getD 6 0 ∧ f.getD 6 0 ≤ 64), decide (1 ≤ f.getD 7 0 ∧ f.getD 7 0 ≤ 4096)] := by
  simp only [setSpotChecks, inRange, Nat.zero_le, true_and, Bool.decide_or]

/-- Fields in their ranges fit their widths. -/
theorem fitsWidths_of_setSpotChecks {f : List Nat} (hl : f.length = 8) (hok : allOk (setSpotChecks f)) :
    fitsWidths Request.setSpot.fieldWidths f := by
  match f, hl with
  | [bright, dark, gap, spotGap, area, promote, width, most], _ =>
    simp only [allOk, setSpotChecks_eq, List.forall_mem_cons, decide_eq_true_eq, List.getD_cons_zero,
      List.getD_cons_succ] at hok
    simp only [Request.fieldWidths, fitsWidths_cons_iff, fitsWidths_nil, and_true]
    omega

/-- The part with the eight settings in force. -/
def State.withSpotSettings (s : State) (f : List Nat) : State :=
  { s with
    spd := { s.spd with brightMargin := f.getD 0 0, darkMargin := f.getD 1 0, gapTolerance := f.getD 2 0 }
    trk := { s.trk with
      spotGap := f.getD 3 0, minArea := f.getD 4 0, promote := f.getD 5 0, streakMaxWidth := f.getD 6 0
      spotMax := f.getD 7 0 } }

theorem handle_setSpot {s : State} {f : List Nat} (tag : Byte) (hf : fitsWidths Request.setSpot.fieldWidths f) :
    handle .setSpot tag (fieldBytes Request.setSpot.fieldWidths f) s = handleSetSpot tag f s := by
  simp only [handle, readFields_fieldBytes hf]

theorem handleSetSpot_badValue (s : State) (tag : Byte) {f : List Nat} {i : Nat} (hi : firstBad (setSpotChecks f) i) :
    handleSetSpot tag f s = s.badValue tag .setSpot i := by
  simp only [handleSetSpot, firstFailing_of_firstBad hi]

theorem handleSetSpot_taken (s : State) (tag : Byte) {f : List Nat} (hl : f.length = 8) (hok : allOk (setSpotChecks f)) :
    handleSetSpot tag f s = (s.withSpotSettings f).withReply tag (.done (.setSpot f)) := by
  simp only [handleSetSpot, firstFailing_of_allOk hok]
  match f, hl with
  | [_, _, _, _, _, _, _, _], _ => rfl

theorem exec_setSpot_taken {s : State} (h : s.listening) (hs : s.ict.state = .stopped) (tag : Byte) {f : List Nat}
    (hl : f.length = 8) (hok : allOk (setSpotChecks f)) :
    exec (rowOf .setSpot tag f) s = .next ((s.withSpotSettings f).withReply tag (.done (.setSpot f))).sends :=
  have hf := fitsWidths_of_setSpotChecks hl hok
  exec_rowOf_loaded h hs (by decide) hf ((handle_setSpot tag hf).trans (handleSetSpot_taken s tag hl hok)) rfl rfl

/-! ## SET_STREAK (R92, R93, Table XL) -/

/-- The ranges of the six fields, written out. -/
theorem setStreakChecks_eq (f : List Nat) : setStreakChecks f =
    [decide (1 ≤ f.getD 0 0 ∧ f.getD 0 0 ≤ 8), decide (1 ≤ f.getD 1 0 ∧ f.getD 1 0 ≤ 32767),
      decide (f.getD 2 0 ≤ 32767), decide (f.getD 3 0 ≤ 64), decide (1 ≤ f.getD 4 0 ∧ f.getD 4 0 ≤ 65535),
      decide (f.getD 5 0 = 0 ∨ (1000 ≤ f.getD 5 0 ∧ f.getD 5 0 ≤ 16777215))] := by
  simp only [setStreakChecks, inRange, Nat.zero_le, true_and, Bool.decide_or]
  rfl

/-- Fields in their ranges fit their widths. -/
theorem fitsWidths_of_setStreakChecks {f : List Nat} (hl : f.length = 6) (hok : allOk (setStreakChecks f)) :
    fitsWidths Request.setStreak.fieldWidths f := by
  match f, hl with
  | [shift, on, off, gap, least, progress], _ =>
    simp only [allOk, setStreakChecks_eq, List.forall_mem_cons, decide_eq_true_eq, List.getD_cons_zero,
      List.getD_cons_succ] at hok
    simp only [Request.fieldWidths, fitsWidths_cons_iff, fitsWidths_nil, and_true]
    omega

/-- The fields as they come into force: T_off is brought below T_on (R92). -/
def streakInForce (f : List Nat) : List Nat := f.set 2 (if f.getD 1 0 ≤ f.getD 2 0 then f.getD 1 0 - 1 else f.getD 2 0)

/-- The part with the six settings in force. -/
def State.withStreakSettings (s : State) (f : List Nat) : State :=
  { s with
    sti := { s.sti with shift := f.getD 0 0, tOn := f.getD 1 0, tOff := f.getD 2 0 }
    trk := { s.trk with streakGap := f.getD 3 0, streakMin := f.getD 4 0, progress := f.getD 5 0 } }

/-- The lower of T_off and T_on − 1 is T_off below a T_on above 0, and T_on − 1 from there on (R92). -/
theorem min_pred_eq_ite {on : Nat} (h : 1 ≤ on) (off : Nat) : min off (on - 1) = if on ≤ off then on - 1 else off := by
  split <;> omega

theorem handle_setStreak {s : State} {f : List Nat} (tag : Byte) (hf : fitsWidths Request.setStreak.fieldWidths f) :
    handle .setStreak tag (fieldBytes Request.setStreak.fieldWidths f) s = handleSetStreak tag f s := by
  simp only [handle, readFields_fieldBytes hf]

theorem handleSetStreak_badValue (s : State) (tag : Byte) {f : List Nat} {i : Nat} (hi : firstBad (setStreakChecks f) i) :
    handleSetStreak tag f s = s.badValue tag .setStreak i := by
  simp only [handleSetStreak, firstFailing_of_firstBad hi]

theorem handleSetStreak_taken (s : State) (tag : Byte) {f : List Nat} (hl : f.length = 6) (hok : allOk (setStreakChecks f)) :
    handleSetStreak tag f s =
      (s.withStreakSettings (streakInForce f)).withReply tag (.done (.setStreak (streakInForce f))) := by
  have hon : 1 ≤ f.getD 1 0 := by
    simp only [allOk, setStreakChecks_eq, List.forall_mem_cons, decide_eq_true_eq] at hok
    omega
  simp only [handleSetStreak, firstFailing_of_allOk hok, min_pred_eq_ite hon]
  match f, hl with
  | [_, _, _, _, _, _], _ => rfl

theorem exec_setStreak_taken {s : State} (h : s.listening) (hs : s.ict.state = .stopped) (tag : Byte) {f : List Nat}
    (hl : f.length = 6) (hok : allOk (setStreakChecks f)) :
    exec (rowOf .setStreak tag f) s =
      .next ((s.withStreakSettings (streakInForce f)).withReply tag (.done (.setStreak (streakInForce f)))).sends :=
  have hf := fitsWidths_of_setStreakChecks hl hok
  exec_rowOf_loaded h hs (by decide) hf ((handle_setStreak tag hf).trans (handleSetStreak_taken s tag hl hok)) rfl rfl

end Sys2Proof.Machine

namespace Sys2Proof.Spots

open Sys2Proof.Machine

/-- Settles O47: refused as every request of STOPPED alone is; with every field in range the settings are taken together, T_off brought
below T_on, and the DONE carries them as they are in force. -/
theorem detectorSettings : Obligations.DetectorSettings := by
  intro s tag h
  refine ⟨refusedAsStated_of_badValue h (by decide) _ tag fun f i hf hi => ?_,
    refusedAsStated_of_badValue h (by decide) _ tag fun f i hf hi => ?_, ?_, ?_⟩
  · exact (handle_setSpot tag hf).trans (handleSetSpot_badValue s tag (by rwa [setSpotChecks_eq]))
  · exact (handle_setStreak tag hf).trans (handleSetStreak_badValue s tag (by rwa [setStreakChecks_eq]))
  · intro bright dark gap spotGap area promote width most hs hb hd hg hsg ha1 ha2 hp hw1 hw2 hm1 hm2
    refine exec_setSpot_taken h hs tag rfl ?_
    simp [allOk, setSpotChecks_eq, hb, hd, hg, hsg, ha1, ha2, hp, hw1, hw2, hm1, hm2]
  · intro shift on off gap least progress hs hsh1 hsh2 hon1 hon2 hoff hg hl1 hl2 hp set
    refine exec_setStreak_taken h hs tag rfl ?_
    simp [allOk, setStreakChecks_eq, hsh1, hsh2, hon1, hon2, hoff, hg, hl1, hl2, hp]

end Sys2Proof.Spots
end

section
/-! PROOFS. STI: the reference of a lane, the accumulators and alert states of its valid columns, and its alert runs. -/

namespace Sys2Proof.Machine

/-! ## The reference (R95) -/

/-- The rounded mean of the levels of some columns. -/
def meanLevel (band : List ValidColumn) : Nat := ((band.map (·.level)).sum + band.length / 2) / band.length

theorem reference_of_few {c : LaneSettings} {cols : List ValidColumn} (h : (inBand c cols).length < 16) :
    reference c cols = ((inBand c cols).length, none) := by
  simp only [reference, if_pos h]

theorem reference_of_enough {c : LaneSettings} {cols : List ValidColumn} (h : 16 ≤ (inBand c cols).length) :
    reference c cols = ((inBand c cols).length, some (meanLevel (inBand c cols))) := by
  simp only [reference, if_neg (Nat.not_lt.mpr h), meanLevel]

/-! ## The accumulator (R96) -/

/-- The decay truncates toward zero: it is the floor of the magnitude's share, with the sign of the accumulator. -/
theorem tdiv_two_pow_eq_ite (acc : Int) (shift : Nat) :
    acc.tdiv (2 ^ shift) = if 0 ≤ acc then acc / 2 ^ shift else -((-acc) / 2 ^ shift) := by
  split
  · next h => exact Int.tdiv_eq_ediv_of_nonneg h
  · next h =>
    have hneg : (-acc).tdiv (2 ^ shift) = (-acc) / 2 ^ shift := Int.tdiv_eq_ediv_of_nonneg (by omega)
    rw [← hneg, Int.neg_tdiv, Int.neg_neg]

/-! ## The alert state (R97, Table XLI) -/

section
variable {tOn tOff : Nat} {sign : Polarity} {acc : Int}

theorem quietStep_below (h : acc.natAbs < tOn) : quietStep tOn acc = none := if_neg (by omega)

theorem quietStep_bright (h : (tOn : Int) ≤ acc) (hpos : 0 < acc) : quietStep tOn acc = some .bright := by
  rw [quietStep, if_pos (by omega), if_pos hpos]

theorem quietStep_dark (h : acc ≤ -(tOn : Int)) : quietStep tOn acc = some .dark := by
  rw [quietStep, if_pos (by omega), if_neg (by omega)]

theorem alertStep_crossed (h : crossed sign acc = true) : alertStep tOn tOff (some sign) acc = quietStep tOn acc := if_pos h

theorem alertStep_ends (h : crossed sign acc = false) (hoff : acc.natAbs < tOff) :
    alertStep tOn tOff (some sign) acc = none := by
  simp only [alertStep, h, Bool.false_eq_true, if_false, if_pos hoff]

theorem alertStep_kept (h : crossed sign acc = false) (hoff : tOff ≤ acc.natAbs) :
    alertStep tOn tOff (some sign) acc = some sign := by
  simp only [alertStep, h, Bool.false_eq_true, if_false, if_neg (Nat.not_lt.mpr hoff)]

theorem crossed_bright (h : acc ≤ 0) : crossed .bright acc = true := decide_eq_true h

theorem not_crossed_bright (h : 0 < acc) : crossed .bright acc = false := decide_eq_false (Int.not_le.mpr h)

theorem crossed_dark (h : 0 ≤ acc) : crossed .dark acc = true := decide_eq_true h

theorem not_crossed_dark (h : acc < 0) : crossed .dark acc = false := decide_eq_false (Int.not_le.mpr h)

end

/-! ## The update of a lane's valid columns -/

/-- The update reads none of the accumulators but its column's own. -/
theorem updateColumns_cons (t : Sti) (mu : Nat) (v : ValidColumn) (cols : List ValidColumn) :
    updateColumns t mu (v :: cols) =
      updateColumns
        { t with
          columns := Sparse.set quietColumn t.columns v.column ((Sparse.get quietColumn t.columns v.column).update t mu v) }
        mu cols := rfl

/-- No other column is updated. -/
theorem get_updateColumns_other (mu : Nat) {cols : List ValidColumn} {t : Sti} (hw : Sparse.wf quietColumn t.columns = true)
    {n : Nat} (hn : ∀ v ∈ cols, v.column ≠ n) :
    Sparse.get quietColumn (updateColumns t mu cols) n = Sparse.get quietColumn t.columns n := by
  induction cols generalizing t with
  | nil => rfl
  | cons v cols ih =>
    obtain ⟨hv, hcols⟩ := List.forall_mem_cons.mp hn
    rw [updateColumns_cons, ih (Sparse.wf_set _ _ _ _ hw) hcols]
    exact Sparse.get_set_other _ _ _ _ _ 0 hw hv.symm

/-- Columns that do not repeat are updated once each. -/
theorem get_updateColumns_mem (mu : Nat) {cols : List ValidColumn} {t : Sti} (hw : Sparse.wf quietColumn t.columns = true)
    (hc : cols.Pairwise (fun a b => a.column < b.column)) {v : ValidColumn} (hv : v ∈ cols) :
    Sparse.get quietColumn (updateColumns t mu cols) v.column =
      (Sparse.get quietColumn t.columns v.column).update t mu v := by
  induction cols generalizing t with
  | nil => exact absurd hv List.not_mem_nil
  | cons u cols ih =>
    obtain ⟨hu, hcols⟩ := List.pairwise_cons.mp hc
    have hset := Sparse.wf_set _ t.columns u.column ((Sparse.get quietColumn t.columns u.column).update t mu u) hw
    rw [updateColumns_cons]
    rcases List.mem_cons.mp hv with rfl | hv
    · rw [get_updateColumns_other mu hset fun w hw => Nat.ne_of_gt (hu w hw)]
      exact Sparse.get_set_same _ _ _ _ 0 hw
    · rw [ih hset hcols hv]
      exact congrArg (ColumnState.update t mu v) (Sparse.get_set_other _ _ _ _ _ 0 hw (Nat.ne_of_gt (hu v hv)))

/-! ## Alert runs (R98) -/

/-- An alert run holds these ALERT columns: they are neighbours of its sign, and it has their first and last column and their
greatest magnitude. -/
structure AlertRun.holds (lane : Nat) (r : AlertRun) (g : List AlertColumn) : Prop where
  lane : r.lane = lane
  first : g.head?.map (·.column) = some r.first
  last : g.getLast?.map (·.column) = some r.last
  sign : ∀ m ∈ g, m.sign = r.polarity
  below : ∀ m ∈ g, m.magnitude ≤ r.peak
  peak : ∃ m ∈ g, m.magnitude = r.peak
  near : g.IsChain (fun a b => b.column = a.column + 1)

/-- A run with a further ALERT column to its right. -/
def AlertRun.extend (r : AlertRun) (c : AlertColumn) : AlertRun :=
  { r with last := c.column, peak := max r.peak c.magnitude }

/-- The second run does not go on where the first ends, with its sign. -/
def AlertRun.apart (r q : AlertRun) : Prop := ¬(q.first = r.last + 1 ∧ q.polarity = r.polarity)

section
variable {lane : Nat} {r : AlertRun} {c : AlertColumn}

theorem formAlertRuns_joins (h : c.column = r.last + 1 ∧ c.sign = r.polarity) (cs : List AlertColumn) :
    formAlertRuns lane r (c :: cs) = formAlertRuns lane (r.extend c) cs := if_pos h

theorem formAlertRuns_parts (h : ¬(c.column = r.last + 1 ∧ c.sign = r.polarity)) (cs : List AlertColumn) :
    formAlertRuns lane r (c :: cs) = r :: formAlertRuns lane (.ofColumn lane c) cs := if_neg h

theorem AlertRun.holds_ofColumn : (AlertRun.ofColumn lane c).holds lane [c] where
  lane := rfl
  first := rfl
  last := rfl
  sign := by simp [AlertRun.ofColumn]
  below := by simp [AlertRun.ofColumn]
  peak := by simp [AlertRun.ofColumn]
  near := .singleton c

/-- The last column of a run's members is the run's. -/
theorem AlertRun.holds.column_of_getLast? {g : List AlertColumn} (h : r.holds lane g) {a : AlertColumn}
    (ha : g.getLast? = some a) : a.column = r.last := by simpa [ha] using h.last

/-- The next column, of the run's sign, joins the run. -/
theorem AlertRun.holds.extend {g : List AlertColumn} (h : r.holds lane g) (hc : c.column = r.last + 1)
    (hsign : c.sign = r.polarity) : (r.extend c).holds lane (g ++ [c]) where
  lane := h.lane
  first := by
    cases g with
    | nil => exact absurd h.first nofun
    | cons a g => exact h.first
  last := by simp [AlertRun.extend]
  sign := List.forall_mem_append.mpr ⟨h.sign, by simpa [AlertRun.extend] using hsign⟩
  below := List.forall_mem_append.mpr
    ⟨fun m hm => le_max_of_le_left (h.below m hm), by simp [AlertRun.extend]⟩
  peak := by
    obtain ⟨m, hm, hpeak⟩ := h.peak
    rcases le_total r.peak c.magnitude with hle | hle
    · exact ⟨c, by simp, (max_eq_right hle).symm⟩
    · exact ⟨m, by simp [hm], hpeak.trans (max_eq_left hle).symm⟩
  near := h.near.append (.singleton c) fun a ha b hb => by
    obtain rfl : c = b := by simpa using hb
    rw [h.column_of_getLast? ha, hc]

/-- The runs formed part the members so far and those to come. -/
theorem formAlertRuns_groups (cs : List AlertColumn) {g : List AlertColumn} (h : r.holds lane g) :
    ∃ groups, groups.flatten = g ++ cs ∧ List.Forall₂ (AlertRun.holds lane) (formAlertRuns lane r cs) groups := by
  induction cs generalizing r g with
  | nil => exact ⟨[g], by simp, .cons h .nil⟩
  | cons c cs ih =>
    by_cases hc : c.column = r.last + 1 ∧ c.sign = r.polarity
    · obtain ⟨groups, hflat, hall⟩ := ih (h.extend hc.1 hc.2)
      exact ⟨groups, by rw [hflat, List.append_assoc]; rfl, by rwa [formAlertRuns_joins hc]⟩
    · obtain ⟨groups, hflat, hall⟩ := ih (AlertRun.holds_ofColumn (c := c))
      exact ⟨g :: groups, by rw [List.flatten_cons, hflat]; rfl, by rw [formAlertRuns_parts hc]; exact .cons h hall⟩

/-- The first run formed goes on from the run so far. -/
theorem formAlertRuns_head (cs : List AlertColumn) :
    ∀ q ∈ (formAlertRuns lane r cs).head?, q.first = r.first ∧ q.polarity = r.polarity := by
  induction cs generalizing r with
  | nil => simp [formAlertRuns]
  | cons c cs ih =>
    by_cases hc : c.column = r.last + 1 ∧ c.sign = r.polarity
    · rw [formAlertRuns_joins hc]
      exact ih (r := r.extend c)
    · simp [formAlertRuns_parts hc]

theorem formAlertRuns_apart (cs : List AlertColumn) : (formAlertRuns lane r cs).IsChain AlertRun.apart := by
  induction cs generalizing r with
  | nil => exact .singleton r
  | cons c cs ih =>
    by_cases hc : c.column = r.last + 1 ∧ c.sign = r.polarity
    · rw [formAlertRuns_joins hc]
      exact ih
    · rw [formAlertRuns_parts hc]
      refine ih.cons fun q hq => ?_
      obtain ⟨hfirst, hpolarity⟩ := formAlertRuns_head cs q hq
      rw [AlertRun.apart, hfirst, hpolarity]
      exact hc

end

section
variable {lane : Nat}

theorem alertRunsOf_groups (cs : List AlertColumn) :
    ∃ groups, groups.flatten = cs ∧ List.Forall₂ (AlertRun.holds lane) (alertRunsOf lane cs) groups := by
  cases cs with
  | nil => exact ⟨[], rfl, .nil⟩
  | cons c cs => exact formAlertRuns_groups cs AlertRun.holds_ofColumn

theorem alertRunsOf_apart (cs : List AlertColumn) : (alertRunsOf lane cs).IsChain AlertRun.apart := by
  cases cs with
  | nil => exact .nil
  | cons c cs => exact formAlertRuns_apart cs

/-- The members of runs that stand apart do: where one run's end, the next column is not of their sign. -/
theorem AlertRun.apart.members {r q : AlertRun} (hapart : r.apart q) {g h : List AlertColumn} (hr : r.holds lane g)
    (hq : q.holds lane h) {a b : AlertColumn} (ha : g.getLast? = some a) (hb : h.head? = some b) :
    ¬(b.column = a.column + 1 ∧ b.sign = a.sign) := by
  have hfirst : b.column = q.first := by simpa [hb] using hq.first
  rw [hr.column_of_getLast? ha, hfirst, hq.sign b (List.mem_of_mem_head? hb), hr.sign a (List.mem_of_getLast? ha)]
  exact hapart

end

end Sys2Proof.Machine
end

section
/-! PROOFS. STI's stage: its work on a lane with a reference and without one, and on the lanes of a line. -/

namespace Sys2Proof.Machine

/-! ## One lane (R95, R103) -/

section
variable {c : LaneSettings} {pixels : List Pixel} (t : Sti) (number i : Nat)

/-- The integrator with a line counted on which lane `i` has `k` columns in band and no reference. -/
def Sti.countUnreferenced (t : Sti) (number i k : Nat) : Sti :=
  { t with lanes := t.lanes.set i ((t.lanes.getD i LaneStats.reset).afterLine number k none []) }

theorem Sti.lane_unreferenced (h : (inBand c (validColumns c pixels)).length < 16) :
    t.lane number i c pixels =
      (t.countUnreferenced number i (inBand c (validColumns c pixels)).length, [],
        { lane := i, mu := none, inBand := (inBand c (validColumns c pixels)).length }) := by
  simp only [Sti.lane, reference_of_few h]
  rfl

theorem Sti.lane_referenced (h : 16 ≤ (inBand c (validColumns c pixels)).length) :
    t.lane number i c pixels =
      (let cols := validColumns c pixels
      let k := (inBand c cols).length
      let mu := meanLevel (inBand c cols)
      let columns := updateColumns t mu cols
      ({ t with
          columns := columns
          lanes := t.lanes.set i
            ((t.lanes.getD i LaneStats.reset).afterLine number k (some mu) (laneColumns columns c)) },
        alertRunsOf i (alertColumns columns cols), { lane := i, mu := some mu, inBand := k })) := by
  simp only [Sti.lane, reference_of_enough h]

end

/-! ## The lanes of a line (R94, R99, R100) -/

/-- Lanes without a reference leave the accumulators alone and have no alert run. -/
theorem stiLanes_unreferenced (number : Nat) (pixels : List Pixel) {lanes : List (Nat × LaneSettings)} (t : Sti)
    (h : ∀ e ∈ lanes, (inBand e.2 (validColumns e.2 pixels)).length < 16) :
    (stiLanes number pixels lanes t).1.columns = t.columns ∧ (stiLanes number pixels lanes t).2.1 = [] ∧
      (stiLanes number pixels lanes t).2.2 =
        lanes.map (fun e => { lane := e.1, mu := none, inBand := (inBand e.2 (validColumns e.2 pixels)).length }) := by
  induction lanes generalizing t with
  | nil => exact ⟨rfl, rfl, rfl⟩
  | cons e lanes ih =>
    obtain ⟨he, hlanes⟩ := List.forall_mem_cons.mp h
    simp only [stiLanes, Sti.lane_unreferenced t number e.1 he, List.map_cons]
    obtain ⟨hcolumns, hruns, hresults⟩ := ih (t.countUnreferenced number e.1 _) hlanes
    exact ⟨hcolumns, hruns, congrArg _ hresults⟩

/-- The part with STI's work on a line done. -/
def State.stiDone (s : State) (p : Processing) : State :=
  let sl := s.las.slot p.slot
  let r := stiLanes sl.number sl.pixels (inspectedLanes s sl) s.sti
  { s with
    sti := r.1
    las := { s.las with
      processing := some { p with sti := true }
      slots := s.las.slots.set p.slot { sl with alerts := r.2.1, integrated := r.2.2 } } }

theorem stiStage_eq {s : State} {p : Processing} (hp : s.las.processing = some p) (hl : p.lnc = true) (hsti : p.sti = false) :
    stiStage s = s.stiDone p := by
  unfold stiStage
  rw [hp]
  dsimp only
  rw [if_neg (by simp [hl, hsti])]
  rfl

end Sys2Proof.Machine

namespace Sys2Proof.Streaks

open Sys2Proof.Machine

/-- Settles O49: a lane with fewer than 16 in-band columns has no reference, and its accumulators are left alone; the valid columns of
a lane rise, so that a referenced line updates each of them once; the alert runs part the ALERT columns because a run ends only where
the next column is not its neighbour of the same sign; and each row of Table XLI is one branch of the alert step. -/
theorem stiStage : Obligations.StiStage := by
  refine ⟨fun s p h hp hl hsti => ⟨?_, stiLanes_unreferenced _ _ s.sti⟩, fun _ _ _ _ _ _ => ⟨rfl, rfl⟩,
    fun t number i c pixels hw => ⟨Sti.lane_unreferenced t number i, fun hk => ?_⟩, fun t mu v c hoff => ?_⟩
  · exact inService_of_unposted _ (t := s.stiDone p) h (stiStage_eq hp hl hsti) rfl rfl
      (State.nothingDue_of_line (p := { p with sti := true }) rfl)
  · let cols := validColumns c pixels
    let mu := meanLevel (inBand c cols)
    let columns := updateColumns t mu cols
    obtain ⟨groups, hflat, hall⟩ := alertRunsOf_groups (lane := i) (alertColumns columns cols)
    have hrun {n : Nat} {g : List AlertColumn} {r : AlertRun} (hg : groups[n]? = some g)
        (hr : (alertRunsOf i (alertColumns columns cols))[n]? = some r) : r.holds i g := by
      obtain ⟨hn, rfl⟩ := List.getElem?_eq_some_iff.mp hr
      obtain ⟨hn', rfl⟩ := List.getElem?_eq_some_iff.mp hg
      exact (List.forall₂_iff_get.mp hall).2 n hn hn'
    refine ⟨columns, alertRunsOf i (alertColumns columns cols),
      fun v => get_updateColumns_mem mu hw (validColumns_rising c pixels), fun n => get_updateColumns_other mu hw,
      Sti.lane_referenced t number i hk, groups, hflat, hall.length_eq.symm, fun n g r hg hr => ?_,
      fun n g h a b hg hh ha hb => ?_⟩
    · have hholds := hrun hg hr
      refine ⟨hholds.lane, hholds.first, hholds.last, fun m hm => ⟨hholds.sign m hm, hholds.below m hm⟩, hholds.peak,
        fun x a b hxa hxb => ?_⟩
      obtain ⟨hx, rfl⟩ := List.getElem?_eq_some_iff.mp hxa
      obtain ⟨hx', rfl⟩ := List.getElem?_eq_some_iff.mp hxb
      exact List.isChain_iff_getElem.mp hholds.near x hx'
    · have hn : n + 1 < (alertRunsOf i (alertColumns columns cols)).length :=
        hall.length_eq ▸ (List.getElem?_eq_some_iff.mp hh).1
      have hapart := List.isChain_iff_getElem.mp (alertRunsOf_apart (alertColumns columns cols)) n hn
      exact hapart.members (hrun hg (List.getElem?_eq_getElem _)) (hrun hh (List.getElem?_eq_getElem hn)) ha hb
  · intro _ _ a alert
    have ha : a = clampInt (-32767) 32767 (c.acc - c.acc.tdiv (2 ^ t.shift) + departure v.level mu) := rfl
    have halert : alert = alertStep t.tOn t.tOff c.alert a := rfl
    clear_value a alert
    refine ⟨by rw [ha, tdiv_two_pow_eq_ite]; rfl, fun hc => ?_, fun hc => ?_, fun hc => ?_⟩ <;> rw [halert, hc]
    · exact ⟨quietStep_below, quietStep_bright, fun h _ => quietStep_dark h⟩
    · exact ⟨fun h hpos => alertStep_kept (not_crossed_bright hpos) (by omega),
        fun hpos h => alertStep_ends (not_crossed_bright hpos) (by omega),
        fun h hlt => (alertStep_crossed (crossed_bright h)).trans (quietStep_below hlt),
        fun h => (alertStep_crossed (crossed_bright (by omega))).trans (quietStep_dark h)⟩
    · exact ⟨fun h hneg => alertStep_kept (not_crossed_dark hneg) (by omega),
        fun hneg h => alertStep_ends (not_crossed_dark hneg) (by omega),
        fun h hlt => (alertStep_crossed (crossed_dark h)).trans (quietStep_below hlt),
        fun h => (alertStep_crossed (crossed_dark (by omega))).trans (quietStep_bright h (by omega))⟩

end Sys2Proof.Streaks
end

section
/-! PROOFS. What the invariants see of the part, and the changes of state that they do not see. -/

namespace Sys2Proof.Machine

/-! ## What the partitions see of the track table -/

/-- What the partitions of ids and blocks see of a track: its state and its blocks. -/
def Track.holding (t : Track) : TrackState × List Nat := (t.state, t.clip.blocks)

/-- A track rewritten with the state and the blocks it has. -/
theorem State.holding_setTrack (s : State) (id : Nat) {t : Track} (h : t.holding = (s.track id).holding) :
    (s.setTrack id t).trk.slots.map Track.holding = s.trk.slots.map Track.holding := by
  simp only [State.setTrack, List.map_set, h]
  refine List.ext_getElem? fun i => ?_
  rw [List.getElem?_set]
  split
  · next hi =>
    subst hi
    split
    · next hl =>
      have hl : id < s.trk.slots.length := by simpa using hl
      simp [State.track, Trk.slot, List.getD, hl]
    · next hl => rw [List.getElem?_eq_none (Nat.le_of_not_lt hl)]
  · rfl

/-- Each track's state and blocks are those of its place in the table. -/
theorem Trk.holding_slot {k m : Trk} (h : m.slots.map Track.holding = k.slots.map Track.holding) (id : Nat) :
    (m.slot id).holding = (k.slot id).holding := by
  have hd (n : Trk) : (n.slot id).holding = (n.slots.map Track.holding).getD id Track.blank.holding := by
    simp only [Trk.slot, List.getD, List.getElem?_map]; cases n.slots[id]? <;> rfl
  rw [hd, hd, h]

/-! ## The memories -/

/-- The raw levels of every slot are in canonical form. -/
def Las.rawWf (l : Las) : Prop := ∀ sl ∈ l.slots, Sparse.wf 0 sl.raw = true

theorem memoryWf_iff (s : State) :
    s.memoryWf = true ↔ Sparse.wf TableId.dark.defaultWord s.ffc.dark.words = true ∧
      Sparse.wf TableId.gain.defaultWord s.ffc.gain.words = true ∧ Sparse.wf 0 s.ffc.sums = true ∧
      Sparse.wf quietColumn s.sti.columns = true ∧ Sparse.wf clipDefault s.cls.words = true ∧ s.las.rawWf := by
  simp only [State.memoryWf, Bool.and_eq_true, List.all_eq_true, Las.rawWf, and_assoc]

theorem Las.rawWf.slot {l : Las} (h : l.rawWf) (i : Nat) : Sparse.wf 0 (l.slot i).raw = true := by
  unfold Las.slot List.getD
  cases hi : l.slots[i]? with
  | none => rfl
  | some sl => exact h sl (List.mem_of_getElem? hi)

/-- Slots that are written, or discarded, with canonical raw levels. -/
theorem Las.rawWf.of_mem {l m : Las} (h : l.rawWf) (hm : ∀ sl ∈ m.slots, sl ∈ l.slots ∨ Sparse.wf 0 sl.raw = true) : m.rawWf :=
  fun sl hsl => (hm sl hsl).elim (h sl) id

/-- LAS changed, its raw levels kept in canonical form. -/
theorem memoryWf_las {s : State} {las : Las} (h : s.las.rawWf → las.rawWf) (hs : s.memoryWf = true) :
    State.memoryWf { s with las := las } = true := by
  rw [memoryWf_iff] at hs ⊢
  obtain ⟨hd, hg, hsums, hc, hw, hr⟩ := hs
  exact ⟨hd, hg, hsums, hc, hw, h hr⟩

/-- The memories of FFC are in canonical form. -/
def Ffc.wf (f : Ffc) : Prop := (∀ id, Sparse.wf id.defaultWord (f.table id).words = true) ∧ Sparse.wf 0 f.sums = true

theorem memoryWf_ffc {s : State} {ffc : Ffc} (h : s.ffc.wf → ffc.wf) (hs : s.memoryWf = true) :
    State.memoryWf { s with ffc := ffc } = true := by
  rw [memoryWf_iff] at hs ⊢
  obtain ⟨hd, hg, hsums, hc, hw, hr⟩ := hs
  obtain ⟨ht, hsums⟩ := h ⟨fun id => by cases id; exacts [hd, hg], hsums⟩
  exact ⟨ht .dark, ht .gain, hsums, hc, hw, hr⟩

theorem memoryWf_columns {s : State} {sti : Sti}
    (h : Sparse.wf quietColumn s.sti.columns = true → Sparse.wf quietColumn sti.columns = true) (hs : s.memoryWf = true) :
    State.memoryWf { s with sti := sti } = true := by
  rw [memoryWf_iff] at hs ⊢
  obtain ⟨hd, hg, hsums, hc, hw, hr⟩ := hs
  exact ⟨hd, hg, hsums, h hc, hw, hr⟩

theorem memoryWf_clips {s : State} {cls : Cls}
    (h : Sparse.wf clipDefault s.cls.words = true → Sparse.wf clipDefault cls.words = true) (hs : s.memoryWf = true) :
    State.memoryWf { s with cls := cls } = true := by
  rw [memoryWf_iff] at hs ⊢
  obtain ⟨hd, hg, hsums, hc, hw, hr⟩ := hs
  exact ⟨hd, hg, hsums, hc, h hw, hr⟩

/-! ## Changes that the invariants do not see -/

/-- `t` differs from `s` in nothing that the invariants see: the tracks' states and blocks, the free ids and blocks, the line in
processing, the inspection state and the link stand, and the memories' form, the report queue's fit and the settings' ranges are
kept. -/
structure Still (s t : State) : Prop where
  tracks : t.trk.slots.map Track.holding = s.trk.slots.map Track.holding := by rfl
  freeList : t.trk.freeList = s.trk.freeList := by rfl
  pool : t.cls.pool = s.cls.pool := by rfl
  processing : t.las.processing = s.las.processing := by rfl
  state : t.ict.state = s.ict.state := by rfl
  link : t.lnk = s.lnk := by rfl
  memory : s.memoryWf = true → t.memoryWf = true := by exact fun h => h
  queue : s.rpq.queue.length ≤ Config.reportQueueSize → t.rpq.queue.length ≤ Config.reportQueueSize := by exact fun h => h
  settings : s.settingsLegal → t.settingsLegal := by exact fun h => h

section
variable (s : State)

theorem still_setTrack (id : Nat) {t : Track} (h : t.holding = (s.track id).holding) : Still s (s.setTrack id t) where
  tracks := s.holding_setTrack id h

theorem still_setHead (h : Nat) (hd : Head) : Still s (s.setHead h hd) := {}

theorem still_setLane (i : Nat) (l : Lane) : Still s (s.setLane i l) := {}

theorem still_setSlot (i : Nat) {sl : Slot} (h : s.las.rawWf → Sparse.wf 0 sl.raw = true) : Still s (s.setSlot i sl) where
  memory := memoryWf_las fun hl => hl.of_mem fun x hx =>
    (List.mem_or_eq_of_mem_set hx).imp_right fun he => by rw [he]; exact h hl

/-- A slot rewritten with the raw levels it has. -/
theorem still_setSlot_raw (i : Nat) {sl : Slot} (h : sl.raw = (s.las.slot i).raw) : Still s (s.setSlot i sl) :=
  still_setSlot s i fun hl => by rw [h]; exact hl.slot i

theorem rawWf_discardSlots {l : Las} (cond : Slot → Bool) (h : l.rawWf) : (l.discardSlots cond).rawWf := by
  refine h.of_mem fun sl hsl => ?_
  obtain ⟨x, hx, rfl⟩ := List.mem_map.mp hsl
  split
  · exact .inr rfl
  · exact .inl hx

theorem still_discardSlots (cond : Slot → Bool) : Still s { s with las := s.las.discardSlots cond } where
  memory := memoryWf_las (rawWf_discardSlots cond)

theorem still_leaveCalibration (r : CalResult) : Still s (s.leaveCalibration r) where
  memory hs := memoryWf_las (s := { s with ffc := _, enc := _ }) (rawWf_discardSlots _)
    (memoryWf_ffc (s := { s with enc := _ }) (fun h => h) hs)

/-- A victim's record leaves a full report queue for the report taken in its place. -/
theorem Rpq.take_length (q : Rpq) (r : Report) (c : Option Notice) (h : q.queue.length ≤ Config.reportQueueSize) :
    (q.take r c).1.queue.length ≤ Config.reportQueueSize := by
  simp only [Rpq.take]
  split
  · exact h
  · split
    · next hl => simpa [Rpq.enter] using hl
    · split
      · next v hv =>
        split
        · have hmem := pick_mem _ _ _ hv
          have := List.length_pos_of_mem hmem
          simp only [Rpq.enter, Rpq.lose, List.length_append, List.length_erase_of_mem hmem, List.length_singleton]
          omega
        · exact h
      · exact h

theorem still_take (r : Report) (c : Option Notice) : Still s { s with rpq := (s.rpq.take r c).1 } where
  queue := s.rpq.take_length r c
  settings h := by
    have : (s.rpq.take r c).1.watermark = s.rpq.watermark ∧ (s.rpq.take r c).1.attention = s.rpq.attention := by
      simp only [Rpq.take]
      repeat' split
      all_goals exact ⟨rfl, rfl⟩
    simpa only [State.settingsLegal, this] using h

theorem still_ict {ict : Ict} (h : ict.state = s.ict.state := by rfl) : Still s { s with ict := ict } where
  state := h

theorem still_enc {enc : Enc} (h : enc.settings = s.enc.settings := by rfl) : Still s { s with enc := enc } where
  settings hs := by simpa only [State.settingsLegal, h] using hs

end

/-! ## When no line is worked on -/

/-- A run is going on or stopping. -/
def State.working (s : State) : Prop := s.ict.state = .running ∨ s.ict.state = .stopping

/-- No line is in processing and no track is OPEN. -/
def State.calm (s : State) : Prop := s.las.processing = none ∧ ∀ id < 64, (s.track id).state ≠ .open

end Sys2Proof.Machine
end

section
/-! PROOFS. What every event of the line keeps: posts and occurrences, the heads and slots, the encoder, and the track table. -/

namespace Sys2Proof.Machine

/-! ## What posts keep -/

/-- A property that posts keep, and with them the heads' deliveries, the triggers and the closes of tracks. MEMORY_FATAL is given its
post, which keeps the property and whatever is stable. -/
structure KeptByPosts (P : State → Prop) : Prop where
  still : ∀ {s t}, Still s t → P s → P t
  stop : ∀ s cause, s.ict.state = .running → P s →
    P { s with ict := { s.ict with state := .stopping, lastStop := cause, limitPending := false } }
  free : ∀ s id, (s.track id).state ≠ .free → P s → P (s.freeTrack id)
  hold : ∀ s id t, (s.track id).state = .open → t.state = .held → t.clip.blocks = (s.track id).clip.blocks → P s →
    P (s.setTrack id t)
  release : ∀ s, P s → P s.releaseLine
  fatal : ∀ post : Post, (∀ r c s, P s → P (post r c s)) → (∀ Q, Stable Q → ∀ r c s, Q s → Q (post r c s)) →
    ∀ s, P s → P (memoryFatalWith post s)

namespace KeptByPosts

variable {P : State → Prop} (hP : KeptByPosts P)

include hP

section
variable {post : Post} (hp : ∀ r c s, P s → P (post r c s))
include hp

theorem beginStopWith (cause : StopCause) (s : State) (hr : s.ict.state = .running) (h : P s) :
    P (beginStopWith post cause s) := hp _ _ _ (hP.stop s cause hr h)

theorem occurWith (src : Source) (d l : Option Nat) (s : State) (h : P s) : P (occurWith post src d l s) := by
  have hcount : P { s with ict := s.ict.count src } := hP.still (still_ict s) h
  simp only [Machine.occurWith]
  split <;> split
  · next hr => exact hP.beginStopWith hp _ _ hr.2 (hp _ _ _ hcount)
  · exact hp _ _ _ hcount
  · next hr => exact hP.beginStopWith hp _ _ hr.2 hcount
  · exact hcount

theorem correctedWith (n : Nat) (s : State) (h : P s) : P (correctedWith post n s) := by
  induction n generalizing s with
  | zero => exact h
  | succ n ih => exact ih _ (hP.occurWith hp _ _ _ s h)

theorem abortCalibrationWith (s : State) (h : P s) : P (abortCalibrationWith post s) := by
  have hleft : P (s.leaveCalibration .aborted) := hP.still (still_leaveCalibration s _) h
  simp only [Machine.abortCalibrationWith]
  repeat' split
  · exact hp _ _ _ hleft
  · exact hleft
  · exact h

variable (hs : ∀ Q, Stable Q → ∀ r c s, Q s → Q (post r c s))
include hs

theorem readRecordWith (id : Nat) (s : State) (h : P s) : P (readRecordWith post id s) := by
  have hrepaired (l : List Health) : P (s.setTrack id { s.track id with wrongWords := l }) :=
    hP.still (still_setTrack s id rfl) h
  simp only [Machine.readRecordWith]
  split
  · exact h
  · have hread (n : Nat) (l : List Health) := hP.correctedWith hp n _ (hrepaired l)
    split
    · exact hread _ _
    · exact hP.fatal post hp hs _ (hread _ _)

theorem takeNoticeWith (n : Notice) (s : State) (h : P s) : P (takeNoticeWith post n s) := by
  have hread := hP.readRecordWith hp hs n.id s h
  simp only [Machine.takeNoticeWith]
  split
  · next hheld => exact hP.free _ _ (by rw [hheld.1]; decide) hread
  · exact hread

end

theorem postDepth (n : Nat) (r : Report) (c : Option Notice) (s : State) (h : P s) : P (postDepth n r c s) := by
  have htake (r : Report) (c : Option Notice) (s : State) (h : P s) : P { s with rpq := (s.rpq.take r c).1 } :=
    hP.still (still_take s r c) h
  induction n generalizing r c s with
  | zero => exact htake r c s h
  | succ n ih =>
    simp only [Machine.postDepth, Machine.postWith]
    have htaken := htake r c s h
    split
    · next q hq => rw [hq] at htaken; exact htaken
    · next q m hq => rw [hq] at htaken; exact hP.takeNoticeWith ih (fun Q hQ => hQ.postDepth n) m _ htaken

theorem post (r : Report) (c : Option Notice) (s : State) (h : P s) : P (Machine.post r c s) := hP.postDepth 5 r c s h

theorem occur (src : Source) (d l : Option Nat) (s : State) (h : P s) : P (Machine.occur src d l s) :=
  hP.occurWith hP.post src d l s h

theorem memoryFatal (s : State) (h : P s) : P (Machine.memoryFatal s) := hP.fatal _ hP.post (fun _ hQ => hQ.post) s h

theorem readRecord (id : Nat) (s : State) (h : P s) : P (Machine.readRecord id s) :=
  hP.readRecordWith hP.post (fun _ hQ => hQ.post) id s h

theorem abortCalibration (s : State) (h : P s) : P (Machine.abortCalibration s) := hP.abortCalibrationWith hP.post s h

theorem beginStop (cause : StopCause) (s : State) (hr : s.ict.state = .running) (h : P s) : P (Machine.beginStop cause s) :=
  hP.beginStopWith hP.post cause s hr h

theorem returnToNormal (head : Nat) (s : State) (h : P s) : P (Machine.returnToNormal head s) := by
  simp only [Machine.returnToNormal]
  split
  · exact hP.post _ _ _ h
  · exact h

/-- The end of a line's processing releases its slot, and begins a stop in RUNNING alone. -/
theorem endLine (s : State) (h : P s) : P s.endLine := by
  simp only [State.endLine]
  split
  · exact h
  · split
    · next hlast =>
      simp only [Bool.and_eq_true, beq_iff_eq] at hlast
      exact hP.beginStop _ _ hlast.2 (hP.release s h)
    · exact hP.release s h

/-! ## Slots, heads and deliveries (chapter 2) -/

theorem completeIfSettled (j : Nat) (s : State) (h : P s) : P (completeIfSettled j s) := by
  simp only [Machine.completeIfSettled]
  split
  · exact hP.still (still_setSlot_raw s j rfl) h
  · exact h

theorem strike (j i : Nat) (s : State) (h : P s) : P (strike j i s) :=
  hP.completeIfSettled j _ (hP.still (still_setSlot_raw s j rfl) h)

theorem late (j i filled : Nat) (s : State) (h : P s) : P (late j i filled s) :=
  hP.strike j i _ (hP.occur _ _ _ _ (hP.still (still_setSlot_raw s j rfl) h))

theorem setDelivery (i : Nat) (make : Target → Delivery) (t : Target) (s : State) (h : P s) :
    P (setDelivery i make t s) := hP.still (still_setHead s _ _) h

theorem passTarget (t : Target) (i : Nat) (s : State) (h : P s) : P (passTarget t i s) := by
  simp only [Machine.passTarget]
  split
  · exact hP.setDelivery i _ t s h
  · exact hP.setDelivery i _ t _ (hP.late _ i _ s h)
  · exact hP.setDelivery i _ t s h
  · exact hP.setDelivery i _ t _ (hP.late _ i _ s h)
  · exact hP.setDelivery i _ t s h
  · exact hP.setDelivery i _ t _ (hP.late _ i _ s h)
  · exact hP.setDelivery i _ t s h

theorem passToHeads (t : Target) (s : State) (h : P s) : P (passToHeads t s) :=
  foldl_keeps _ (fun u i hu => hP.passTarget t i u hu) _ s h

theorem takeLine (kind : LineKind) (number : Nat) (suppressed : Bool) (s : State) (h : P s) :
    P (takeLine kind number suppressed s) := by
  simp only [Machine.takeLine]
  split
  · refine hP.passToHeads _ _ (hP.still { memory := memoryWf_las fun hl => hl.of_mem fun sl hsl => ?_ } h)
    exact (List.mem_or_eq_of_mem_set hsl).imp_right fun he => by rw [he]; rfl
  · exact hP.passToHeads _ _ (hP.occur _ _ _ _ (hP.still {} h))

theorem evaluateLamp (i mean : Nat) (s : State) (h : P s) : P (evaluateLamp i mean s) := by
  have hset (hd : Head) : P (s.setHead i hd) := hP.still (still_setHead s i hd) h
  simp only [Machine.evaluateLamp]
  repeat' split
  · exact hP.occur _ _ _ _ (hset _)
  · exact hP.returnToNormal _ _ (hset _)
  · exact hset _

theorem endDelivery (i j pixels refSum : Nat) (s : State) (h : P s) : P (endDelivery i j pixels refSum s) := by
  have hshort : P (shortNoted i j pixels s) := by
    simp only [shortNoted]
    split
    · exact hP.occur _ _ _ _ (hP.still (still_setSlot_raw s j rfl) h)
    · exact h
  have hlamp (c : HeadSettings) (kind : LineKind) (u : State) (hu : P u) : P (lampEvaluated i c kind pixels refSum u) := by
    simp only [lampEvaluated]
    split
    · exact hP.evaluateLamp _ _ u hu
    · exact hu
  rw [endDelivery_eq]
  exact hP.strike _ _ _ (hP.still (still_setHead _ _ _) (hlamp _ _ _ hshort))

theorem unsolicited (i : Nat) (s : State) (h : P s) : P (unsolicited i s) :=
  hP.occur _ _ _ _ (hP.still (still_setHead s i _) h)

theorem startDelivery (i : Nat) (t : Target) (s : State) (h : P s) : P (startDelivery i t s) := by
  cases t with
  | slot j => exact hP.still (still_setHead s i _) h
  | dropped => exact hP.still (still_setHead s i _) h

theorem lineStart (i : Nat) (s : State) (h : P s) : P (lineStart i s) := by
  simp only [Machine.lineStart]
  split
  · split
    · exact hP.unsolicited i s h
    · exact hP.startDelivery i _ s h
    · exact hP.unsolicited i _ (hP.endDelivery i _ _ _ s h)
    · exact hP.unsolicited i s h
    · exact hP.startDelivery i _ s h
  · exact h

theorem rawLevel (i level : Nat) (s : State) (h : P s) : P (rawLevel i level s) := by
  simp only [Machine.rawLevel]
  split
  · split
    · split
      · refine hP.still (still_setHead _ i _) ?_
        split
        · exact hP.still (still_setSlot s _ fun hl => Sparse.wf_set _ _ _ _ (hl.slot _)) h
        · exact h
      · exact h
    all_goals exact h
  · exact h

theorem lineEnd (i : Nat) (s : State) (h : P s) : P (lineEnd i s) := by
  simp only [Machine.lineEnd]
  split
  · split
    · exact hP.endDelivery i _ _ _ s h
    · exact hP.still (still_setHead s i _) h
    · exact hP.still (still_setHead s i _) h
    all_goals exact h
  · exact h

/-! ## The encoder and the line triggers (chapter 1) -/

theorem webTrigger (line : Nat) (s : State) (h : P s) : P (webTrigger line s) := by
  simp only [Machine.webTrigger]
  split
  · exact hP.still (still_enc s) h
  · have hmoving : P { s with enc := { s.enc.restartStandstill s.now with web := .moving } } := hP.still (still_enc s) h
    split
    · exact hP.post _ _ _ hmoving
    · exact hmoving

theorem limitNotice (dropped : Bool) (s : State) (h : P s) : P (limitNotice dropped s) := by
  simp only [Machine.limitNotice]
  split
  · next hr =>
    split
    · exact hP.beginStop _ s hr h
    · exact hP.still (still_ict s) h
  · exact h

theorem lineTrigger (s : State) (h : P s) : P (lineTrigger s) := by
  have hsettings : s.enc.advance.suppress.1.settings = s.enc.settings := by
    simp only [Enc.suppress, Enc.advance]
    repeat' split
    all_goals rfl
  have hissued : P (State.pulse { s with enc := s.enc.advance.suppress.1 }) :=
    hP.still (s := { s with enc := s.enc.advance.suppress.1 }) {} (hP.still (still_enc s hsettings) h)
  simp only [Machine.lineTrigger]
  split
  · have htaken := hP.takeLine .run s.enc.nextLine s.enc.advance.suppress.2 _ (hP.webTrigger s.enc.nextLine _ hissued)
    split
    · exact hP.limitNotice _ _ htaken
    · exact htaken
  · exact hP.webTrigger _ s h

theorem forwardCount (s : State) (h : P s) : P (forwardCount s) := by
  simp only [Machine.forwardCount]
  repeat' split
  · exact hP.still (still_enc s) h
  · exact hP.still (still_enc s) h
  · exact hP.lineTrigger _ (hP.still (still_enc s) h)

theorem edge (ch : Channel) (level : Bool) (s : State) (h : P s) : P (edge ch level s) := by
  have haccepted : P { s with enc := s.enc.accept ch level s.now } := hP.still (still_enc s (by cases ch <;> rfl)) h
  simp only [Machine.edge]
  repeat' split
  · exact haccepted
  · exact hP.occur _ _ _ s h
  · exact haccepted
  · exact hP.forwardCount _ haccepted
  · exact hP.still (still_enc _) haccepted

theorem standstillExpiry (s : State) (h : P s) : P (standstillExpiry s) := by
  simp only [Machine.standstillExpiry]
  split
  · exact h
  · next t _ =>
    have hhalted : P (s.stoodStill t) := hP.still {} h
    split
    · exact hP.post _ _ _ hhalted
    · exact hhalted

theorem spliceEdge (rising : Bool) (s : State) (h : P s) : P (spliceEdge rising s) := by
  simp only [Machine.spliceEdge]
  split
  · exact hP.still {} h
  · exact hP.still {} h

theorem calibrationExpiry (s : State) (h : P s) : P (calibrationExpiry s) := by
  simp only [Machine.calibrationExpiry]
  split
  · exact h
  · next t _ =>
    have htaken : P (Machine.takeLine .calibration 0 false (s.reach t).pulse) := hP.takeLine _ _ _ _ (hP.still {} h)
    repeat' split
    · exact htaken
    · exact hP.still (still_enc _) htaken
    · exact hP.still {} htaken

theorem closeOutExpiry (s : State) (h : P s) : P (closeOutExpiry s) := by
  simp only [Machine.closeOutExpiry]
  repeat' split
  · exact hP.still {} h
  all_goals exact h

/-! ## Closes of tracks (R119) -/

theorem countSpot (i n : Nat) (s : State) (h : P s) : P (countSpot i n s) := by
  simp only [Machine.countSpot]
  split
  · exact hP.still (still_setLane s _ _) h
  · exact h

/-- A track freed with its record rewritten. -/
theorem freeRewritten {id : Nat} {t : Track} (s : State) (ho : (s.track id).state = .open)
    (ht : t.holding = (s.track id).holding) (h : P s) : P ((s.setTrack id t).freeTrack id) := by
  refine hP.free _ id ?_ (hP.still (still_setTrack s id ht) h)
  rw [State.track_setTrack_state s id id t (congrArg Prod.fst ht), ho]
  decide

theorem settleSlot {id : Nat} {t : Track} (cause : CloseCause) (n : Nat) (s : State) (ho : (s.track id).state = .open)
    (ht : t.holding = (s.track id).holding) (h : P s) : P (settleSlot id t cause n s) := by
  simp only [Machine.settleSlot]
  split
  · exact hP.hold s id _ ho rfl (congrArg Prod.snd ht) h
  · exact hP.freeRewritten s ho ht h

theorem closeTrack {id : Nat} {t : Track} (cause : CloseCause) (s : State) (ho : (s.track id).state = .open)
    (ht : t.holding = (s.track id).holding) (h : P s) : P (closeTrack id t cause s) := by
  simp only [Machine.closeTrack]
  split
  · exact hP.freeRewritten s ho ht h
  · have hserial : P { s with trk := { s.trk with serial := nextSerial s.trk.serial } } := hP.still {} h
    split
    · have htrk : (Machine.countSpot t.lane t.patchNumber
          { s with trk := { s.trk with serial := nextSerial s.trk.serial } }).track id = s.track id := by
        simp only [Machine.countSpot]
        split <;> rfl
      exact hP.post _ _ _ (hP.settleSlot cause _ _ (by rw [htrk]; exact ho) (by rw [htrk]; exact ht) (hP.countSpot _ _ _ hserial))
    · exact hP.post _ _ _ (hP.settleSlot cause _ _ ho ht hserial)

end KeptByPosts

/-- An OPEN track stays OPEN under a post, short of MEMORY_FATAL. -/
theorem open_spared (id : Nat) : Spared fun s => s.ict.state = .faulted ∨ (s.track id).state = .open where
  take _ _ _ h := h
  count _ _ h := h
  stop s _ hr h := .inr (h.resolve_left fun hf => absurd (hf.symm.trans hr) (by decide))
  words s i l _ h := by rw [State.track_repair_state]; exact h
  free s i hh h := h.imp_right fun ho => by
    rw [State.track_freeTrack, if_neg fun he => by rw [he, hh] at ho; cases ho]
    exact ho
  shut _ h := .inl h.1

/-- An OPEN track whose reading has not brought MEMORY_FATAL is still OPEN. -/
theorem open_readRecord {id i : Nat} {s : State} (ho : (s.track id).state = .open)
    (hf : (readRecord i s).ict.state ≠ .faulted) : ((readRecord i s).track id).state = .open :=
  ((open_spared id).readRecord i s (.inr ho)).resolve_left hf

namespace KeptByPosts

variable {P : State → Prop} (hP : KeptByPosts P)

include hP

theorem closeOne (s : State) (id : Nat) (h : P s) : P (closeOne s id) := by
  refine unlessFaulted_keeps _ s h fun h => ?_
  split
  · next ho =>
    have hread := hP.readRecord id s h
    unfold State.unlessFaulted
    split
    · exact hread
    · next hf => exact hP.closeTrack .stopped _ (open_readRecord ho hf) rfl hread
  · exact h

theorem closeAll (s : State) (h : P s) : P (closeAll s) :=
  foldl_keeps (P := P) Machine.closeOne (fun u id hu => hP.closeOne u id hu) _ s h

/-! ## Tracks through a line: findings, rows and ends (chapter 7) -/

theorem readOpen (s : State) (id : Nat) (h : P s) : P (readOpen s id) := by
  refine unlessFaulted_keeps _ s h fun h => ?_
  split
  · exact hP.readRecord id s h
  · exact h

theorem failAllocation (sl : Slot) (f : Finding) (s : State) (h : P s) : P (failAllocation sl f s) := by
  unfold Machine.failAllocation
  refine unlessFaulted_keeps _ _ (hP.occur _ _ _ _ (hP.still {} h)) fun h => ?_
  split
  · exact h
  · split
    · exact hP.post _ _ _ (hP.countSpot _ _ _ (hP.still {} h))
    · exact h

/-- OPEN tracks are folded one after another into a survivor that is none of them. -/
theorem mergeAll {survivor : Nat} {ids : List Nat} (hn : ids.Nodup) (s : State)
    (ho : ∀ id ∈ ids, id ≠ survivor ∧ (s.track id).state = .open) (h : P s) : P (ids.foldl (mergeInto survivor) s) := by
  induction ids generalizing s with
  | nil => exact h
  | cons id ids ih =>
    obtain ⟨hid, hn⟩ := List.nodup_cons.mp hn
    have hset (j : Nat) : ((s.setTrack survivor ((s.track survivor).absorb (s.track id))).track j).state = (s.track j).state :=
      State.track_setTrack_state s survivor j _ rfl
    refine ih hn _ (fun j hj => ⟨(ho j (List.mem_cons_of_mem _ hj)).1, ?_⟩) (hP.free _ id ?_ (hP.still (still_setTrack s _ rfl) h))
    · rw [mergeInto, State.track_freeTrack, if_neg fun he : j = id => hid (he ▸ hj), hset]
      exact (ho j (List.mem_cons_of_mem _ hj)).2
    · rw [hset, (ho id List.mem_cons_self).2]
      decide

theorem joinMatches {f : Finding} {first : Nat} {others : List Nat} {s : State} (hm : matchingIds f s = first :: others)
    (h : P s) : P (joinMatches f first others s) := by
  have hn : (first :: others).Nodup := hm ▸ (matchingIds_rising f s).imp Nat.ne_of_lt
  have hmerged : P (((first :: others).filter (· ≠ oldest s first others)).foldl (mergeInto (oldest s first others)) s) := by
    refine hP.mergeAll (hn.filter _) s (fun id hid => ?_) h
    obtain ⟨hmem, hne⟩ := List.mem_filter.mp hid
    rw [← hm, mem_matchingIds] at hmem
    exact ⟨by simpa using hne, ((s.track id).matches_iff f).mp hmem.2 |>.1⟩
  exact hP.still (still_setTrack _ _ (by cases f <;> rfl)) hmerged

theorem reportStreak {id : Nat} {t : Track} (s : State) (ht : t.holding = (s.track id).holding) (h : P s) :
    P (reportStreak id t s) := by
  have hset {u : Track} (hu : u.holding = t.holding) : P (s.setTrack id u) := hP.still (still_setTrack s id (hu.trans ht)) h
  simp only [Machine.reportStreak]
  split
  · exact hP.post _ _ _ (hset rfl)
  · split
    · exact hP.post _ _ _ (hset rfl)
    · exact hset rfl

omit hP in
theorem holding_endLine (sl : Slot) (o : LaneOutcome) (count : Nat) (t : Track) :
    (t.endLine sl o count).holding = t.holding := by
  obtain ⟨_, _, _, _, _, hc⟩ := t.carried_frame sl o count
  simp only [Track.endLine_eq, Track.marked, hc, Track.holding]

omit hP in
theorem holding_markLarge (cause : CloseCause) (t : Track) : (t.markLarge cause).holding = t.holding := by
  unfold Track.markLarge
  split <;> rfl

theorem endTrack (sl : Slot) (s : State) (id : Nat) (h : P s) : P (endTrack sl s id) := by
  refine unlessFaulted_keeps _ _ (hP.readOpen s id h) fun h => ?_
  dsimp only
  split
  · next o ho _ =>
    split
    · exact hP.closeTrack _ _ ho ((holding_markLarge _ _).trans (holding_endLine sl o _ _)) h
    · exact hP.reportStreak _ (holding_endLine sl o _ _) h
  · exact h

theorem postPatch (s : State) (i : Nat) (h : P s) : P (postPatch s i) := by
  refine unlessFaulted_keeps _ s h fun h => ?_
  dsimp only
  split
  · exact hP.post _ _ _ (hP.still (still_setLane s i _) h)
  · exact h

theorem mapTracks {g : Track → Track} (hg : ∀ t, (g t).holding = t.holding) (s : State) (h : P s) : P (s.mapTracks g) :=
  hP.still { tracks := by simp [State.mapTracks, hg] } h

end KeptByPosts

end Sys2Proof.Machine
end

section
/-! PROOFS. What the stages of a line keep: the handover, LNC, SPD, STI and TRK, with the memories they write. -/

namespace Sys2Proof.Machine

/-! ## The memories of FFC -/

theorem Ffc.wf.setTable {f : Ffc} (h : f.wf) {id : TableId} {t : Table} (ht : Sparse.wf id.defaultWord t.words = true) :
    (f.setTable id t).wf := by
  refine ⟨fun i => ?_, by rw [Ffc.setTable_sums]; exact h.2⟩
  by_cases hi : i = id
  · subst hi
    rw [Ffc.table_setTable]
    exact ht
  · rw [Ffc.table_setTable_other f id t hi]
    exact h.1 i

theorem Ffc.wf.write {f : Ffc} (h : f.wf) (id : TableId) (c v : Nat) : (f.write id c v).wf :=
  h.setTable (Sparse.wf_set _ _ _ _ (h.1 id))

theorem Ffc.wf.writes {f : Ffc} (h : f.wf) (id : TableId) (ws : List (Nat × Nat)) : (f.writes id ws).wf := by
  obtain ⟨words, he, hw⟩ := Ffc.writes_eq id ws (h.1 id)
  rw [he]
  exact h.setTable hw

theorem Ffc.wf.strike {f : Ffc} (h : f.wf) (id : TableId) (c : Nat) : (f.strike id c).wf :=
  h.setTable (t := { f.table id with loaded := [] }) (h.1 id)

theorem Ffc.wf.forget {f : Ffc} (h : f.wf) (cond : Location → Bool) : (f.forget cond).wf :=
  ⟨fun id => by rw [Ffc.forget_table]; exact h.1 id, h.2⟩

theorem Ffc.wf.joinPage {f : Ffc} (h : f.wf) (id : TableId) (page : Nat) : (f.joinPage id page).wf := h.setTable (h.1 id)

theorem Ffc.wf.apply {f : Ffc} (h : f.wf) (id : TableId) (formed : List Formed) (complete : Bool) (width : Nat) :
    (f.apply id formed complete width).wf := by
  have hpages (pages : List Nat) (g : Ffc) (hg : g.wf) : (pages.foldl (fun f p => f.joinPage id p) g).wf := by
    induction pages generalizing g with
    | nil => exact hg
    | cons p pages ih => exact ih _ (hg.joinPage id p)
  have hwritten : (f.written id formed).wf := (h.writes id _).forget _
  rw [Ffc.apply_eq]
  split
  · exact hpages _ _ hwritten
  · exact hwritten

theorem Ffc.wf.finished {f : Ffc} (h : f.wf) (r : CalRecord) (formed : List Formed) (width : Nat) :
    (f.finished r formed width).wf := by
  unfold Ffc.finished
  split
  · exact Ffc.wf.apply (f := { f with record := some r }) h _ _ _ _
  · exact h

theorem wf_addColumns (sl : Slot) (cols : List Nat) {sums : Sparse Nat} (h : Sparse.wf 0 sums = true) :
    Sparse.wf 0 (addColumns sl cols sums) = true := by
  unfold addColumns
  induction cols generalizing sums with
  | nil => exact h
  | cons c cols ih => exact ih (Sparse.wf_set _ _ _ _ h)

/-! ## The columns of STI -/

/-- `u` is STI with the thresholds of `t`, and columns in canonical form if those of `t` are. -/
structure Sti.Keeps (t u : Sti) : Prop where
  thresholds : u.shift = t.shift ∧ u.tOn = t.tOn ∧ u.tOff = t.tOff
  columns : Sparse.wf quietColumn t.columns = true → Sparse.wf quietColumn u.columns = true

theorem Sti.Keeps.refl (t : Sti) : t.Keeps t := ⟨⟨rfl, rfl, rfl⟩, id⟩

theorem Sti.Keeps.trans {t u v : Sti} (h : t.Keeps u) (h' : u.Keeps v) : t.Keeps v := by
  obtain ⟨⟨hshift, hon, hoff⟩, hc⟩ := h
  obtain ⟨⟨hshift', hon', hoff'⟩, hc'⟩ := h'
  exact ⟨⟨hshift'.trans hshift, hon'.trans hon, hoff'.trans hoff⟩, hc' ∘ hc⟩

theorem Sti.keeps_takeChange (t : Sti) (i : Nat) (c : LaneSettings) : t.Keeps (t.takeChange i c) := by
  have zeroed (cols : List Nat) (m : Sparse ColumnState) (h : Sparse.wf quietColumn m = true) :
      Sparse.wf quietColumn (cols.foldl (fun m c => Sparse.set quietColumn m c quietColumn) m) = true := by
    induction cols generalizing m with
    | nil => exact h
    | cons c cols ih => exact ih _ (Sparse.wf_set _ _ _ _ h)
  exact ⟨⟨rfl, rfl, rfl⟩, zeroed _ _⟩

theorem Sti.keeps_afterChange (t : Sti) (i : Nat) (l : Lane) : t.Keeps (t.afterChange i l) := by
  unfold Sti.afterChange
  split
  · exact .refl t
  · exact t.keeps_takeChange i _
  · exact .refl t

theorem wf_updateColumns (mu : Nat) (cols : List ValidColumn) {t : Sti} (h : Sparse.wf quietColumn t.columns = true) :
    Sparse.wf quietColumn (updateColumns t mu cols) = true := by
  induction cols generalizing t with
  | nil => exact h
  | cons v cols ih => exact ih (t := { t with columns := _ }) (Sparse.wf_set _ _ _ _ h)

theorem Sti.keeps_lane (t : Sti) (number i : Nat) (c : LaneSettings) (pixels : List Pixel) :
    t.Keeps (t.lane number i c pixels).1 := by
  refine ⟨⟨rfl, rfl, rfl⟩, fun h => ?_⟩
  simp only [Sti.lane]
  split
  · exact wf_updateColumns _ _ h
  · exact h

theorem keeps_stiLanes (number : Nat) (pixels : List Pixel) (lanes : List (Nat × LaneSettings)) (t : Sti) :
    t.Keeps (stiLanes number pixels lanes t).1 := by
  induction lanes generalizing t with
  | nil => exact .refl t
  | cons e lanes ih => exact (t.keeps_lane number e.1 e.2 pixels).trans (ih _)

theorem still_sti (s : State) {sti : Sti} (h : s.sti.Keeps sti) : Still s { s with sti := sti } where
  memory := memoryWf_columns h.columns
  settings hs := by simpa only [State.settingsLegal, h.thresholds] using hs

theorem still_changesTaken (s : State) (n : Nat) : Still s (s.changesTaken n) := by
  have keeps (is : List Nat) (t : Sti) : t.Keeps (is.foldl (fun t i => t.afterChange i (lane s i)) t) := by
    induction is generalizing t with
    | nil => exact .refl t
    | cons i is ih => exact (t.keeps_afterChange i _).trans (ih _)
  have hsti := keeps (List.range n) s.sti
  exact
    { memory := memoryWf_columns (sti := (s.changesTaken n).sti) hsti.columns
      settings := (still_sti s hsti).settings }

/-! ## The clip store -/

/-- The words of the clip store after a row has been written from an offset of a clip on. -/
def clipWritten (blocks : List Nat) : Nat → List (Option Nat) → Sparse (Checked (Option Nat)) → Sparse (Checked (Option Nat))
  | _, [], m => m
  | offset, w :: ws, m =>
    clipWritten blocks (offset + 1) ws (Sparse.set clipDefault m (clipAddress blocks offset) { val := w, health := .good })

theorem Cls.writeWords_eq (blocks : List Nat) (row : List (Option Nat)) (offset : Nat) (m : Cls) :
    m.writeWords blocks offset row = { m with words := clipWritten blocks offset row m.words } := by
  induction row generalizing offset m with
  | nil => rfl
  | cons w ws ih => exact ih (offset + 1) _

theorem wf_clipWritten (blocks : List Nat) (row : List (Option Nat)) (offset : Nat) {m : Sparse (Checked (Option Nat))}
    (h : Sparse.wf clipDefault m = true) : Sparse.wf clipDefault (clipWritten blocks offset row m) = true := by
  induction row generalizing offset m with
  | nil => exact h
  | cons w ws ih => exact ih (offset + 1) (Sparse.wf_set _ _ _ _ h)

theorem still_clipWords (s : State) {words : Sparse (Checked (Option Nat))}
    (h : Sparse.wf clipDefault s.cls.words = true → Sparse.wf clipDefault words = true) :
    Still s { s with cls := { s.cls with words := words } } where
  memory := memoryWf_clips h

namespace KeptByPosts

variable {P : State → Prop} (hP : KeptByPosts P)

include hP

/-! ## Table words and calibration lines (chapter 3) -/

theorem withFfc {ffc : Ffc} (s : State) (hf : s.ffc.wf → ffc.wf) (h : P s) : P { s with ffc := ffc } :=
  hP.still { memory := memoryWf_ffc hf } h

theorem readWord (id : TableId) (c : Nat) (s : State) (h : P s) : P (readWord id c s).1 := by
  rw [Machine.readWord]
  split
  · exact h
  · exact hP.occur _ _ _ _ (hP.withFfc s (fun hf => hf.write id c _) h)
  · exact hP.memoryFatal _ (hP.withFfc s (fun hf => hf.strike id c) h)

theorem correctColumns (sl : Slot) (cs : List Nat) (done : List Pixel) (s : State) (h : P s) :
    P (correctColumns sl cs done s).1 := by
  induction cs generalizing done s with
  | nil => exact h
  | cons c cs ih =>
    have hdark := hP.readWord .dark c s h
    simp only [Machine.correctColumns]
    split
    · exact ih _ _ h
    · split
      · next hd => rw [hd] at hdark; exact hdark
      · next s1 d hd =>
        rw [hd] at hdark
        have hgain := hP.readWord .gain c s1 hdark
        split
        · exact hdark
        · split
          · next hg => rw [hg] at hgain; exact hgain
          · next hg =>
            rw [hg] at hgain
            split
            · exact hgain
            · exact ih _ _ hgain

theorem correctLine (i : Nat) (s : State) (h : P s) : P (correctLine i s) := by
  have hcols := hP.correctColumns (s.las.slot i) (List.range s.las.width) [] s h
  simp only [Machine.correctLine]
  split
  · next hc => rw [hc] at hcols; exact hP.still (still_setSlot_raw _ i rfl) hcols
  · next hc => rw [hc] at hcols; exact hcols

theorem takeCalibrationLine (i : Nat) (s : State) (h : P s) : P (takeCalibrationLine i s) := by
  have summed (hs : List Nat) (m : Sparse Nat) (hm : Sparse.wf 0 m = true) :
      Sparse.wf 0 (hs.foldl (fun m h => addColumns (s.las.slot i) (s.las.columnsOf h) m) m) = true := by
    induction hs generalizing m with
    | nil => exact hm
    | cons n ns ih => exact ih _ (wf_addColumns _ _ hm)
  exact hP.endLine _ (hP.withFfc s (fun hf => ⟨fun id => by cases id; exacts [hf.1 .dark, hf.1 .gain], summed _ _ hf.2⟩) h)

/-! ## SPD's overflow (R85, R86) -/

theorem overflow (i : Nat) (r : Run) (s : State) (h : P s) : P (overflow i r s) := by
  have hmarked : P (s.setSlot i { s.las.slot i with degraded := true }) := hP.still (still_setSlot_raw s i rfl) h
  simp only [Machine.overflow]
  split
  · exact hP.occur _ _ _ _ hmarked
  · exact hP.occur _ _ _ _ h

/-! ## LNC's lanes (R63 to R70) -/

theorem lncLanes (sl : Slot) (gone is : List Nat) (w : LncWork) (h : P w.state) :
    P (is.foldl (lncLanes sl gone) w).state := by
  have one (i : Nat) (s : State) (h : P s) : P (lncLane sl i s).1 := by
    have hset (l : Lane) : P (s.setLane i l) := hP.still (still_setLane s i l) h
    simp only [lncLane]
    repeat' split
    · exact hP.post _ _ _ (hset _)
    · exact hset _
    · exact h
    · exact h
  induction is generalizing w with
  | nil => exact h
  | cons i is ih =>
    refine ih _ ?_
    have hlane := one i w.state h
    simp only [Machine.lncLanes]
    repeat' split
    · exact h
    · exact h
    · next hl => rw [hl] at hlane; exact hlane
    · next hl => rw [hl] at hlane; exact hlane

end KeptByPosts

/-- A property that the stages of a line keep: beside what posts keep, a track may be opened while the part is not FAULTED, a line goes
on in processing, and a clip takes a block from the pool. -/
structure KeptByStages (P : State → Prop) : Prop extends KeptByPosts P where
  opened : ∀ s id rest t, s.trk.freeList = id :: rest → t.holding = (.open, []) → s.ict.state ≠ .faulted → P s →
    P (State.setTrack { s with trk := { s.trk with freeList := rest } } id t)
  process : ∀ s p, (s.ict.state = .faulted → s.las.processing ≠ none) → P s →
    P { s with las := { s.las with processing := some p } }
  grown : ∀ s id b rest t, s.cls.pool = b :: rest → (s.track id).state ≠ .free →
    t.holding = ((s.track id).state, (s.track id).clip.blocks ++ [b]) → P s →
    P (State.setTrack { s with cls := { s.cls with pool := rest } } id t)

namespace KeptByStages

variable {P : State → Prop} (hP : KeptByStages P)

include hP

/-- A line handed over goes into processing in RUNNING or CALIBRATING, so not in FAULTED. -/
theorem handover (s : State) (h : P s) : P (handover s) := by
  simp only [Machine.handover]
  split
  · exact h
  · next i hi =>
    have hs : s.ict.state ≠ .faulted := fun hf => by
      rw [handoverSlot_none (.inr (.inr (.inr (.inl hf))))] at hi
      cases hi
    have hprocess := hP.process s { slot := i, lnc := false, spd := false, sti := false } (fun hf => absurd hf hs) h
    split
    · exact hP.correctLine i _ hprocess
    · exact hP.takeCalibrationLine i _ hprocess

/-- A stage's work on the slot of the line, which goes on in processing. -/
theorem passOn (s : State) {i : Nat} {sl : Slot} (p : Processing) (hraw : sl.raw = (s.las.slot i).raw)
    (hf : s.ict.state = .faulted → s.las.processing ≠ none) (h : P s) :
    P { s.setSlot i sl with las := { (s.setSlot i sl).las with processing := some p } } :=
  hP.process _ p hf (hP.still (still_setSlot_raw s i hraw) h)

theorem lncStage (s : State) (h : P s) : P (lncStage s) := by
  have passed (p : Processing) (w : LncWork) (hw : P w.state) : P (w.state.unlessFaulted fun s =>
      let s := s.setSlot p.slot { s.las.slot p.slot with outcomes := w.outcomes }
      { s with las := { s.las with processing := some { p with lnc := true } } }) := by
    unfold State.unlessFaulted
    split
    · exact hw
    · next hs => exact hP.passOn _ { p with lnc := true } rfl (fun hf => absurd hf hs) hw
  rw [Machine.lncStage]
  split
  · next p _ =>
    split
    · exact h
    · rw [takeChanges_eq]
      exact passed p _ (hP.lncLanes _ _ _ _ (hP.still (still_changesTaken s 16) h))
  · exact h

theorem spdStage (s : State) (h : P s) : P (spdStage s) := by
  have finished (p : Processing) (runs : List Run) (number kept discarded : Nat) (u : State) (hu : P u) :
      P (u.unlessFaulted fun s =>
        let s := s.setSlot p.slot { s.las.slot p.slot with runs := runs }
        { s with
          las := { s.las with processing := some { p with spd := true } }
          spd := s.spd.finishLine number kept discarded }) := by
    unfold State.unlessFaulted
    split
    · exact hu
    · next hs =>
      exact hP.passOn { u with spd := u.spd.finishLine number kept discarded } { p with spd := true } rfl
        (fun hf => absurd hf hs) (hP.still (s := u) {} hu)
  simp only [Machine.spdStage]
  split
  · split
    · exact h
    · refine finished _ _ _ _ _ _ ?_
      split
      · exact h
      · exact hP.overflow _ _ s h
  · exact h

theorem stiStage (s : State) (h : P s) : P (stiStage s) := by
  have done (p : Processing) (hp : s.las.processing = some p) (alerts : List AlertRun) (integrated : List Integrated)
      {sti : Sti} (hsti : s.sti.Keeps sti) :
      P { s.setSlot p.slot { s.las.slot p.slot with alerts := alerts, integrated := integrated } with
        las := { (s.setSlot p.slot { s.las.slot p.slot with alerts := alerts, integrated := integrated }).las with
          processing := some { p with sti := true } }
        sti := sti } :=
    hP.passOn { s with sti := sti } { p with sti := true } rfl (fun _ he => absurd (hp.symm.trans he) (Option.some_ne_none p))
      (hP.still (still_sti s hsti) h)
  rw [Machine.stiStage]
  split
  · next p hp =>
    split
    · exact h
    · exact done p hp _ _ (keeps_stiLanes _ _ _ s.sti)
  · exact h

/-! ## TRK's stage (R109) -/

theorem takeFinding (sl : Slot) (s : State) (f : Finding) (h : P s) : P (takeFinding sl s f) := by
  simp only [Machine.takeFinding, State.unlessFaulted]
  split
  · exact h
  · next hs =>
    split
    · unfold openFor
      split
      · exact hP.failAllocation sl f s h
      · next hl => exact hP.opened s _ _ _ hl rfl hs h
    · next hm => exact hP.joinMatches hm h

theorem matchFinding (sl : Slot) (s : State) (f : Finding) (h : P s) : P (matchFinding sl s f) :=
  hP.takeFinding sl _ f (foldl_keeps _ (fun u id hu => hP.readOpen u id hu) _ s h)

/-- A row joins the clip of a track that is not FREE. -/
theorem placeRow (id : Nat) (row : List (Option Nat)) (s : State) (ho : (s.track id).state ≠ .free) (h : P s) :
    P (placeRow id row s) := by
  have written (blocks : List Nat) (offset : Nat) :
      P { s with cls := { s.cls with words := clipWritten blocks offset row s.cls.words } } :=
    hP.still (still_clipWords s (wf_clipWritten blocks row offset)) h
  simp only [Machine.placeRow, writeRow, endClip, Cls.writeWords_eq]
  split
  · exact hP.still (still_setTrack _ id rfl) (written _ _)
  · split
    · exact hP.still (still_setTrack _ id rfl) (hP.still (s := s) {} h)
    · split
      · exact hP.still (still_setTrack _ id rfl) (hP.still (s := s) {} h)
      · next b rest hb =>
        exact hP.grown
          { s with cls := { s.cls with
            words := clipWritten ((s.track id).clip.blocks ++ [b]) (s.track id).clip.used row s.cls.words } } id b rest
          { s.track id with
            clip := { (s.track id).clip with
              first := true, blocks := (s.track id).clip.blocks ++ [b], wordsUsed := row.length - (s.track id).clip.room
              rows := (s.track id).clip.rows + 1 } }
          hb ho rfl (written ((s.track id).clip.blocks ++ [b]) (s.track id).clip.used)

theorem storeRow (sl : Slot) (id : Nat) (s : State) (ho : (s.track id).state ≠ .free) (h : P s) : P (storeRow sl id s) := by
  have hset (t : Track) (ht : t.state = (s.track id).state) : ((s.setTrack id t).track id).state ≠ .free := by
    rw [State.track_setTrack_state s id id t ht]
    exact ho
  simp only [Machine.storeRow]
  split
  · split
    · exact h
    · split
      · exact hP.placeRow id _ _ (hset _ rfl) (hP.still (still_setTrack s id rfl) h)
      · exact hP.placeRow id _ s ho h
  · exact h

theorem askRow (sl : Slot) (s : State) (id : Nat) (h : P s) : P (askRow sl s id) := by
  unfold Machine.askRow
  split
  · next ho => exact hP.storeRow sl id s (by rw [ho]; decide) h
  · exact h

theorem trkLine (i : Nat) (s : State) (h : P s) : P (trkLine i s) := by
  have hbegun : P (State.mapTracks { s with trk := s.trk.countLine (s.las.slot i) } Track.beginStage) :=
    hP.mapTracks (g := Track.beginStage) (fun _ => rfl) _ (hP.still {} h)
  have hmatched (fs : List Finding) (u : State) (hu : P u) : P (fs.foldl (Machine.matchFinding (s.las.slot i)) u) :=
    foldl_keeps _ (fun u f hu => hP.matchFinding _ u f hu) _ _ hu
  have hasked (ids : List Nat) (u : State) (hu : P u) : P (ids.foldl (Machine.askRow (s.las.slot i)) u) :=
    foldl_keeps _ (fun u id hu => hP.askRow _ u id hu) _ _ hu
  have hended (ids : List Nat) (u : State) (hu : P u) : P (ids.foldl (Machine.endTrack (s.las.slot i)) u) :=
    foldl_keeps _ (fun u id hu => hP.endTrack _ u id hu) _ _ hu
  have hposted (is : List Nat) (u : State) (hu : P u) : P (is.foldl Machine.postPatch u) :=
    foldl_keeps _ (fun u n hu => hP.postPatch u n hu) _ _ hu
  have hlast (u : State) (hu : P u) : P (u.mapTracks Track.endStage) := hP.mapTracks (g := Track.endStage) (fun _ => rfl) u hu
  simp only [Machine.trkLine, State.unlessFaulted]
  split
  · exact hmatched _ _ hbegun
  · split
    · exact hended _ _ (hasked _ _ (hmatched _ _ hbegun))
    · split
      · exact hposted _ _ (hlast _ (hended _ _ (hasked _ _ (hmatched _ _ hbegun))))
      · exact hP.endLine _ (hposted _ _ (hlast _ (hended _ _ (hasked _ _ (hmatched _ _ hbegun)))))

theorem trkStage (s : State) (h : P s) : P (trkStage s) := by
  simp only [Machine.trkStage]
  repeat' split
  · exact hP.trkLine _ s h
  · exact h
  · exact h

end KeptByStages

end Sys2Proof.Machine
end

section
/-! PROOFS. What the procedures and the requests keep. -/

namespace Sys2Proof.Machine

/-! ## Close all (R121) -/

/-- No run is going on or stopping: no post begins one. -/
theorem rests_spared : Spared fun s => ¬s.working where
  take _ _ _ h := h
  count _ _ h := h
  stop _ _ hr h := absurd (.inl hr) h
  words _ _ _ _ h := h
  free _ _ _ h := h
  shut _ h := by rintro (hr | hr) <;> exact absurd (h.1.symm.trans hr) (by decide)

theorem not_working_of {s : State} {st : Inspection} (h : s.ict.state = st) (hr : st ≠ .running := by decide)
    (hs : st ≠ .stopping := by decide) : ¬s.working := by
  rintro (hw | hw)
  · exact hr (h.symm.trans hw)
  · exact hs (h.symm.trans hw)

/-- FAULTED, or no track of a list of ids is OPEN. -/
def State.closed (ids : List Nat) (s : State) : Prop := s.ict.state = .faulted ∨ ∀ id ∈ ids, (s.track id).state ≠ .open

theorem closed_spared (ids : List Nat) : Spared (State.closed ids) where
  take _ _ _ h := h
  count _ _ h := h
  stop _ _ hr h := .inr (h.resolve_left fun hf => absurd (hf.symm.trans hr) (by decide))
  words s id l _ h := h.imp_right fun h j hj => by rw [State.track_repair_state]; exact h j hj
  free s id _ h := h.imp_right fun h j hj => by
    rw [State.track_freeTrack]
    split
    · decide
    · exact h j hj
  shut _ h := .inl h.1

/-- A track that is closed is not OPEN, and no other is opened. -/
theorem closed_closeTrack {ids : List Nat} {id : Nat} {t : Track} (cause : CloseCause) (s : State) (h : s.closed ids) :
    (closeTrack id t cause s).closed (id :: ids) := by
  have rewritten {u : State} {x : Track} (hu : u.closed ids) (hx : x.state ≠ .open) : (u.setTrack id x).closed (id :: ids) := by
    refine hu.imp_right fun hu j hj => ?_
    rw [State.track_setTrack]
    split
    · exact hx
    · next hne =>
      rcases List.mem_cons.mp hj with rfl | hj
      · rw [State.track_of_le (Nat.le_of_not_lt fun hlt => hne ⟨rfl, hlt⟩)]
        decide
      · exact hu j hj
  have freed {u : State} {x : Track} (hu : u.closed ids) : ((u.setTrack id x).freeTrack id).closed (id :: ids) := by
    refine hu.imp_right fun hu j hj => ?_
    rw [State.track_freeTrack]
    split
    · decide
    · next hne =>
      rw [State.track_setTrack_other u id j x hne]
      exact hu j ((List.mem_cons.mp hj).resolve_left hne)
  have settled {u : State} (x : Track) (n : Nat) (hu : u.closed ids) : (settleSlot id x cause n u).closed (id :: ids) := by
    simp only [settleSlot]
    split
    · exact rewritten hu (show TrackState.held ≠ .open by decide)
    · exact freed hu
  have counted (i n : Nat) {u : State} (hu : u.closed ids) : (countSpot i n u).closed ids := by
    simp only [countSpot]
    split <;> exact hu
  simp only [closeTrack]
  split
  · exact freed h
  · refine (closed_spared (id :: ids)).post _ _ _ (settled _ _ ?_)
    split
    · exact counted _ _ h
    · exact h

theorem closed_closeOne (ids : List Nat) (id : Nat) (s : State) (h : s.closed ids) : (closeOne s id).closed (id :: ids) := by
  unfold closeOne State.unlessFaulted
  split
  · next hf => exact .inl hf
  · dsimp only
    split
    · split
      · next hf => exact .inl hf
      · exact closed_closeTrack _ _ ((closed_spared ids).readRecord id s h)
    · next ho => exact h.imp_right fun h j hj => (List.mem_cons.mp hj).elim (fun he => he ▸ ho) (h j)

theorem closed_foldl (ids done : List Nat) (s : State) (h : s.closed done) :
    (ids.foldl closeOne s).closed (ids.reverse ++ done) := by
  induction ids generalizing done s with
  | nil => exact h
  | cons id ids ih =>
    rw [List.reverse_cons, List.append_assoc]
    exact ih _ _ (closed_closeOne done id s h)

theorem closed_closeAll (s : State) : (closeAll s).closed (List.range 64) := by
  rw [closeAll]
  generalize List.range 64 = ids
  refine (closed_foldl ids [] s (.inr fun _ h => by cases h)).imp_right fun h id hid => ?_
  exact h id (List.mem_append_left _ (List.mem_reverse.mpr hid))

/-- A stable property is kept by posts when unseen changes, the freeing of a track and its close to HELD keep it. -/
theorem KeptByPosts.of_stable {P : State → Prop} (hP : Stable P) (still : ∀ {s t}, Still s t → P s → P t)
    (free : ∀ s id, (s.track id).state ≠ .free → P s → P (s.freeTrack id))
    (hold : ∀ s id t, (s.track id).state = .open → t.state = .held → t.clip.blocks = (s.track id).clip.blocks → P s →
      P (s.setTrack id t)) : KeptByPosts P where
  still := still
  stop := hP.stop
  free := free
  hold := hold
  release := hP.release
  fatal _ hp _ s h := hP.memoryFatalWith hp s h

/-- No line is in processing. -/
def State.idle (s : State) : Prop := s.las.processing = none

theorem idle_stable : Stable State.idle where
  take _ _ _ h := h
  count _ _ h := h
  stop _ _ _ h := h
  words _ _ _ h := h
  free _ _ _ h := h
  release s h := by
    simp only [State.releaseLine]
    split
    · exact h
    · rfl
  abort _ h := h
  drop _ h := h
  lanes _ h := h
  fatal _ h := h
  finish s d h := by
    simp only [State.finishRequest]
    split
    · split <;> exact h
    · exact h
    · exact h

theorem idle_keptByPosts : KeptByPosts State.idle :=
  .of_stable idle_stable (fun hs h => hs.processing.trans h) (fun _ _ _ h => h) fun _ _ _ _ _ _ h => h

/-- What beside posts the procedures and the requests do: a new inspection state, with no run going on or with nothing left of it, and
the reply of the request in progress. -/
structure KeptByEvents (P : State → Prop) : Prop extends KeptByPosts P where
  state : ∀ s st, ¬s.working ∨ s.calm → P s → P { s with ict := { s.ict with state := st } }
  finish : ∀ s d, P s → P (s.finishRequest d)

namespace KeptByEvents

variable {P : State → Prop} (hP : KeptByEvents P)

include hP

theorem enterState (st : Inspection) (s : State) (hs : ¬s.working ∨ s.calm) (h : P s) : P (enterState st s) :=
  hP.post _ _ _ (hP.state s st hs h)

/-! ## The procedures (R49, R173) -/

theorem formBright {lines target : Nat} {cols : List Nat} {done : List Formed} {s t : State} {formed : Option (List Formed)}
    (hf : formBright lines target cols done s = (t, formed)) (hw : ¬s.working) (h : P s) : ¬t.working ∧ P t := by
  induction cols generalizing done s with
  | nil => exact (Prod.mk.inj hf).1 ▸ ⟨hw, h⟩
  | cons c cols ih =>
    have hread := hP.readWord .dark c s h
    have hrests : ¬(readWord .dark c s).1.working := by
      rw [readWord]
      split
      · exact hw
      · exact rests_spared.occur _ _ _ _ hw
      · exact rests_spared.shut _ (memoryFatal_shut _)
    simp only [Machine.formBright] at hf
    split at hf
    · next hr =>
      rw [hr] at hread hrests
      exact (Prod.mk.inj hf).1 ▸ ⟨hrests, hread⟩
    · next hr =>
      rw [hr] at hread hrests
      split at hf
      · exact (Prod.mk.inj hf).1 ▸ ⟨hrests, hread⟩
      · exact ih hf hrests hread

theorem finishCalibration (r : CalRecord) (formed : List Formed) (s : State) (hw : ¬s.working) (h : P s) :
    P (finishCalibration r formed s) := by
  have hfinished : P (s.finished r formed) :=
    hP.still (still_leaveCalibration _ _) (hP.withFfc s (fun hf => hf.finished r formed _) h)
  have hrests : ¬(Machine.post (r.report formed) none (s.finished r formed)).working := rests_spared.post _ _ _ hw
  rw [finishCalibration_eq]
  exact unlessFaulted_keeps _ _ (hP.post _ _ _ hfinished) (hP.enterState _ _ (.inl hrests))

theorem completeCalibration (r : CalRecord) (s : State) (hw : ¬s.working) (h : P s) : P (completeCalibration r s) := by
  have hcompleting : P { s with
      las := s.las.discardSlots assemblingCalibration, ffc := { s.ffc with record := some (recordAtCompletion r s) } } :=
    hP.still (still_discardSlots { s with ffc := { s.ffc with record := some (recordAtCompletion r s) } } _)
      (hP.withFfc s (fun hf => hf) h)
  simp only [Machine.completeCalibration]
  split
  · exact hP.finishCalibration _ _ _ hw hcompleting
  · split
    · next hf =>
      obtain ⟨hrests, hformed⟩ := hP.formBright hf hw hcompleting
      exact hP.finishCalibration _ _ _ hrests hformed
    · next hf => exact (hP.formBright hf hw hcompleting).2

theorem settleCalibration (s : State) (h : P s) : P (settleCalibration s) := by
  rw [Machine.settleCalibration]
  split
  · split
    · next hd =>
      simp only [calibrationDue, Bool.and_eq_true, beq_iff_eq] at hd
      obtain ⟨⟨⟨⟨⟨-, hc⟩, -⟩, -⟩, -⟩, -⟩ := hd
      exact hP.completeCalibration _ s (not_working_of hc) h
    · exact h
  · exact h

theorem finishStop (s : State) (hi : s.idle) (h : P s) : P (finishStop s) := by
  have hclosed : P (Machine.closeAll s.slotsDiscarded) := hP.closeAll _ (hP.still (still_discardSlots s _) h)
  have hidle : (Machine.closeAll s.slotsDiscarded).idle := idle_keptByPosts.closeAll _ hi
  have hopen := closed_closeAll s.slotsDiscarded
  change P ((Machine.closeAll s.slotsDiscarded).unlessFaulted _)
  generalize Machine.closeAll s.slotsDiscarded = u at hclosed hidle hopen
  unfold State.unlessFaulted
  split
  · exact hclosed
  · next hf =>
    have hcalm : u.calm := ⟨hidle, fun id hid => hopen.resolve_left hf id (List.mem_range.mpr hid)⟩
    have hentered : P (Machine.enterState .stopped { u with lnc := u.lnc.map Lane.stopStep }) :=
      hP.enterState _ _ (.inr hcalm) (hP.still {} hclosed)
    dsimp only
    split
    · exact hentered
    · exact hP.finish _ _ hentered

theorem finishProcedures (s : State) (h : P s) : P (finishProcedures s) := by
  rw [Machine.finishProcedures, runStop]
  split
  · next hs => exact hP.finishStop _ hs.2 (hP.settleCalibration s h)
  · exact hP.settleCalibration s h

end KeptByEvents

end Sys2Proof.Machine
end

section
/-! PROOFS. What the requests keep (Table LXVIII). -/

namespace Sys2Proof.Machine

/-! ## The settings in their ranges -/

/-- A request that no check refuses has every field in its range. -/
theorem firstFailing_none {ok : List Bool} (h : firstFailing ok = none) : ∀ b ∈ ok, b = true := fun b hb => by
  simpa using List.findIdx?_eq_none_iff.mp h b hb

section
variable (s : State) {f : List Nat}

theorem still_encoderSettings (h : firstFailing (setEncoderChecks f) = none) :
    Still s { s with enc := { s.enc with settings := encSettingsOf f, highWater := 0, lag := 0 } } where
  settings hs := by
    have hok := firstFailing_none h
    simp only [setEncoderChecks, List.forall_mem_cons, inRange, decide_eq_true_eq] at hok
    obtain ⟨hcounts, hglitch, hstandstill, hsplice, -⟩ := hok
    obtain ⟨-, hrest⟩ := hs
    exact ⟨⟨hcounts.1, hcounts.2, hglitch.2, hstandstill.1, hstandstill.2, hsplice.2⟩, hrest⟩

theorem still_spotSettings (h : firstFailing (setSpotChecks f) = none) :
    Still s { s with
      spd := { s.spd with brightMargin := f.getD 0 0, darkMargin := f.getD 1 0, gapTolerance := f.getD 2 0 }
      trk := { s.trk with
        spotGap := f.getD 3 0, minArea := f.getD 4 0, promote := f.getD 5 0, streakMaxWidth := f.getD 6 0
        spotMax := f.getD 7 0 } } where
  settings hs := by
    have hok := firstFailing_none h
    simp only [setSpotChecks, List.forall_mem_cons, inRange, Bool.or_eq_true, decide_eq_true_eq] at hok
    obtain ⟨hbright, hdark, htolerance, hgap, harea, hpromote, hwidth, hmax, -⟩ := hok
    obtain ⟨henc, -, hstreak, hrest⟩ := hs
    exact ⟨henc, ⟨hbright.2, hdark.2, htolerance.2, hgap.2, harea.1, harea.2, hpromote, hwidth.1, hwidth.2, hmax.1, hmax.2⟩,
      hstreak, hrest⟩

theorem still_streakSettings (h : firstFailing (setStreakChecks f) = none) :
    Still s { s with
      sti := { s.sti with shift := f.getD 0 0, tOn := f.getD 1 0, tOff := min (f.getD 2 0) (f.getD 1 0 - 1) }
      trk := { s.trk with streakGap := f.getD 3 0, streakMin := f.getD 4 0, progress := f.getD 5 0 } } where
  settings hs := by
    have hok := firstFailing_none h
    simp only [setStreakChecks, List.forall_mem_cons, inRange, Bool.or_eq_true, decide_eq_true_eq] at hok
    obtain ⟨hshift, hon, -, hgap, hmin, hprogress, -⟩ := hok
    obtain ⟨henc, hspot, -, hrest⟩ := hs
    have hoff : min (f.getD 2 0) (f.getD 1 0 - 1) < f.getD 1 0 := by omega
    exact ⟨henc, hspot, ⟨hshift.1, hshift.2, hoff, hon.2, hgap.2, hmin.1, hmin.2, hprogress⟩, hrest⟩

theorem still_clipSettings (h : firstFailing (setClipsChecks f) = none) (keepSpot keepStreak : Bool) :
    Still s { s with
      trk := { s.trk with keepSpot := keepSpot, keepStreak := keepStreak }
      cls := { s.cls with margin := f.getD 2 0, maximum := f.getD 3 0 } } where
  settings hs := by
    have hok := firstFailing_none h
    simp only [setClipsChecks, List.forall_mem_cons, inRange, decide_eq_true_eq] at hok
    obtain ⟨-, -, hmargin, hmaximum, -⟩ := hok
    obtain ⟨henc, hspot, hstreak, -, hattention⟩ := hs
    exact ⟨henc, hspot, hstreak, ⟨hmargin.2, hmaximum⟩, hattention⟩

theorem still_attentionSettings (h : firstFailing (setAttentionChecks f) = none) :
    Still s { s with rpq := { s.rpq with watermark := f.getD 0 0, attention := f.getD 1 0 } } where
  settings hs := by
    have hok := firstFailing_none h
    simp only [setAttentionChecks, List.forall_mem_cons, inRange, decide_eq_true_eq] at hok
    obtain ⟨hwatermark, hattention, -⟩ := hok
    obtain ⟨henc, hspot, hstreak, hclips, -⟩ := hs
    exact ⟨henc, hspot, hstreak, hclips, hwatermark.1, hwatermark.2, hattention⟩

end

/-! ## What the requests do beside posts -/

theorem Ffc.wf.writePage {f : Ffc} (h : f.wf) (id : TableId) (page : Nat) (entries : List Nat) :
    (f.writePage id page entries).wf := by
  unfold Ffc.writePage
  generalize entries.zipIdx = es
  induction es generalizing f with
  | nil => exact h
  | cons e es ih => exact ih (h.write id _ _)

theorem still_establish (s : State) (k : ReportKind) (p : Nat) (inProcessing : Bool) :
    Still s { s with rpq := s.rpq.establish k p inProcessing } := by
  cases inProcessing <;> exact {}

theorem still_markDamaged (id : Nat) (damaged : Bool) (s : State) : Still s (markDamaged id damaged s) := by
  simp only [markDamaged]
  split
  · exact still_setTrack s id rfl
  · exact {}

theorem still_startRun (s : State) : Still s s.startRun where
  memory h := memoryWf_columns (s := { s with las := s.las.startRun }) (fun _ => rfl)
    (memoryWf_las (las := s.las.startRun) (rawWf_discardSlots fun sl => sl.state ≠ .free) h)

/-- The changes that SET_HEAD makes beside the returns to normal. -/
theorem still_loadHeads (s : State) (lampSet lampClear : Nat) (heads : List Head) (geometry : List Window)
    (changed : Bool) : Still s { s with
      las := { s.las with lampSet := lampSet, lampClear := lampClear, heads := heads, geometry := geometry }
      ffc := if changed then
          { s.ffc with dark := { s.ffc.dark with loaded := [] }, gain := { s.ffc.gain with loaded := [] } }
        else s.ffc } := by
  cases changed <;> exact {}

/-- A property `P` from which every request's processing leads to `Q`: replies do, the STOP that begins a stop, and RESET. -/
structure Answers (P Q : State → Prop) : Prop extends KeptByEvents P where
  reply : ∀ s r, P s → Q (s.reply r)
  stops : ∀ s tag, s.ict.state = .running → P s →
    Q (beginStop .request { s with lnk := { s.lnk with inProgress := some { tag := tag, reply := none } } })
  resets : ∀ s tag, P s → Q (handleReset tag s)

namespace KeptByPosts

variable {P : State → Prop} (hP : KeptByPosts P)

include hP

/-! ## READ_TABLE and READ_CLIP -/

theorem readPageWords (id : TableId) (cols : List Nat) (p : PageRead) (h : P p.state) :
    P (cols.foldl (readPageWord id) p).state := by
  induction cols generalizing p with
  | nil => exact h
  | cons c cols ih =>
    refine ih _ ?_
    rw [readPageWord]
    split
    · exact h
    · exact hP.occur _ _ _ _ (hP.withFfc _ (fun hf => hf.write id c _) h)
    · exact h

theorem readClipWord (blocks : List Nat) (offset : Nat) (s : State) (h : P s) : P (readClipWord blocks offset s).1 := by
  simp only [Machine.readClipWord]
  split
  · exact h
  · exact hP.occur _ _ _ _ (hP.still (still_clipWords s (Sparse.wf_set _ _ _ _)) h)
  · exact h

theorem readClipWords (blocks : List Nat) (n offset : Nat) (s : State) (h : P s) : P (readClipWords blocks n offset s).1 := by
  induction n generalizing offset s with
  | zero => exact h
  | succ n ih => exact ih (offset + 1) _ (hP.readClipWord blocks offset s h)

theorem skip (blocks : List Nat) (w : ClipWalk) (h : P w.state) : P (w.skip blocks).state := by
  rw [ClipWalk.skip]
  split
  · exact h
  · next o _ =>
    have hread := hP.readClipWord blocks (o + 2) _ h
    split <;> next hr => rw [hr] at hread; exact hread

theorem read (blocks : List Nat) (index : Nat) (w : ClipWalk) (h : P w.state) : P (w.read blocks index).state := by
  rw [ClipWalk.read]
  split
  · exact h
  · next o _ =>
    have hhead := hP.readClipWord blocks (o + 2) _ (hP.readClipWord blocks (o + 1) _ (hP.readClipWord blocks o _ h))
    dsimp only
    split
    · exact hhead
    · exact hP.readClipWords blocks _ _ _ hhead

theorem walkClip (clip : Clip) (first count : Nat) (s : State) (h : P s) : P (walkClip clip first count s).state := by
  have walk {α : Type} (step : ClipWalk → α → ClipWalk) (hstep : ∀ w a, P w.state → P (step w a).state) (as : List α)
      (w : ClipWalk) (hw : P w.state) : P (as.foldl step w).state := by
    induction as generalizing w with
    | nil => exact hw
    | cons a as ih => exact ih _ (hstep w a hw)
  simp only [Machine.walkClip]
  split
  · exact h
  · exact walk _ (fun w i hw => hP.read clip.blocks i w hw) _ _ (walk _ (fun w _ hw => hP.skip clip.blocks w hw) _ _ h)

end KeptByPosts

namespace Answers

variable {P Q : State → Prop} (hP : Answers P Q) (tag : Byte) (f : List Nat) (s : State) (h : P s)

include hP h

theorem handleStart (hs : s.ict.state = .stopped) : Q (handleStart tag s) := by
  simp only [Machine.handleStart]
  split
  · exact hP.reply _ _ (hP.enterState _ _ (.inl (not_working_of (s := s.startRun) hs)) (hP.still (still_startRun s) h))
  · exact hP.reply _ _ h

theorem handleStop : Q (handleStop tag s) := by
  rw [Machine.handleStop]
  split
  · next hr => exact hP.stops s tag hr h
  · next hc =>
    have haborted := hP.abortCalibration s h
    have hrests : ¬(abortCalibration s).working := by
      simp only [abortCalibration, abortCalibrationWith]
      have hw := not_working_of hc
      repeat' split
      · exact rests_spared.post _ _ _ hw
      · exact hw
      · exact hw
    refine hP.reply _ _ (unlessFaulted_keeps _ _ haborted fun h => hP.enterState _ _ (.inl ?_) (hP.still (still_ict _) h))
    exact hrests
  all_goals exact hP.reply _ _ h

theorem handleClearFault : Q (handleClearFault tag s) := by
  refine hP.reply _ _ ?_
  split
  · next hf => exact hP.enterState _ _ (.inl (not_working_of (s := { s with las := _ }) hf)) (hP.still (still_discardSlots s _) h)
  · exact h

theorem handleCalibrate (hs : s.ict.state = .stopped) : Q (handleCalibrate tag f s) := by
  simp only [Machine.handleCalibrate]
  split
  · exact hP.reply _ _ h
  · split
    · refine hP.reply _ _ (hP.enterState _ _ (.inl (not_working_of (s := { s with ffc := _, enc := _ }) hs)) ?_)
      have hbegun : P { s with ffc := { s.ffc with record := some (calRecordOf f), active := true, sums := [] } } :=
        hP.withFfc s (fun hf => ⟨fun id => by cases id; exacts [hf.1 .dark, hf.1 .gain], rfl⟩) h
      exact hP.still (still_enc _) hbegun
    · exact hP.reply _ _ h

theorem handleSetHead : Q (handleSetHead tag f s) := by
  simp only [Machine.handleSetHead]
  split
  · exact hP.reply _ _ h
  · split
    · refine hP.reply _ _ ?_
      exact foldl_keeps _ (fun u id hu => hP.returnToNormal id u hu) _ _ (hP.still (still_loadHeads s _ _ _ _ _) h)
    · exact hP.reply _ _ h

theorem handleSetEncoder : Q (handleSetEncoder tag f s) := by
  simp only [Machine.handleSetEncoder]
  split
  · exact hP.reply _ _ h
  · next hn => exact hP.reply _ _ (hP.still (still_encoderSettings s hn) h)

theorem handleSplice : Q (handleSplice tag s) := hP.reply _ _ (hP.still (still_enc s) h)

theorem handleLoadTable (payload : List Byte) : Q (handleLoadTable tag f payload s) := by
  simp only [Machine.handleLoadTable]
  split
  · exact hP.reply _ _ h
  · next id _ =>
    split
    · exact hP.reply _ _ (hP.withFfc s (fun hf => ((hf.writePage id _ _).joinPage id _).forget _) h)
    · exact hP.reply _ _ h

theorem handleReadTable : Q (handleReadTable tag f s) := by
  simp only [Machine.handleReadTable]
  split
  · exact hP.reply _ _ h
  · split
    · refine hP.reply _ _ ?_
      split
      · exact hP.readPageWords _ _ _ h
      · exact hP.memoryFatal _ (hP.withFfc _ (fun hf => hf.strike _ _) (hP.readPageWords _ _ _ h))
    · exact hP.reply _ _ h

theorem handleSetLane : Q (handleSetLane tag f s) := by
  simp only [Machine.handleSetLane]
  repeat' split
  · exact hP.reply _ _ h
  · exact hP.reply _ _ h
  · exact hP.reply _ _ h
  · exact hP.reply _ _ (hP.still (still_setLane s _ _) h)

theorem handleClearLane : Q (handleClearLane tag f s) := by
  simp only [Machine.handleClearLane]
  repeat' split
  · exact hP.reply _ _ h
  · exact hP.reply _ _ h
  · exact hP.reply _ _ (hP.still (still_setLane s _ _) h)
  · exact hP.reply _ _ h

theorem handleArmLane : Q (handleArmLane tag f s) := by
  simp only [Machine.handleArmLane]
  repeat' split
  · exact hP.reply _ _ h
  · exact hP.reply _ _ h
  · exact hP.reply _ _ h
  · exact hP.reply _ _ (hP.still (still_setLane s _ _) h)

theorem handleSetSpot : Q (handleSetSpot tag f s) := by
  simp only [Machine.handleSetSpot]
  split
  · exact hP.reply _ _ h
  · next hn => exact hP.reply _ _ (hP.still (still_spotSettings s hn) h)

theorem handleSetStreak : Q (handleSetStreak tag f s) := by
  simp only [Machine.handleSetStreak]
  split
  · exact hP.reply _ _ h
  · next hn => exact hP.reply _ _ (hP.still (still_streakSettings s hn) h)

theorem handleSetClips : Q (handleSetClips tag f s) := by
  simp only [Machine.handleSetClips]
  split
  · exact hP.reply _ _ h
  · next hn => exact hP.reply _ _ (hP.still (still_clipSettings s hn _ _) h)

theorem handleSetPriority : Q (handleSetPriority tag f s) := by
  simp only [Machine.handleSetPriority]
  split
  · exact hP.reply _ _ h
  · split
    · exact hP.reply _ _ h
    · refine hP.reply _ _ ?_
      split
      · exact h
      · exact hP.still (still_establish s _ _ _) h

theorem handleSetFaultAction : Q (handleSetFaultAction tag f s) := by
  simp only [Machine.handleSetFaultAction]
  repeat' split
  · exact hP.reply _ _ h
  · exact hP.reply _ _ h
  · exact hP.reply _ _ (hP.still (still_ict s) h)

theorem handleSetAttention : Q (handleSetAttention tag f s) := by
  simp only [Machine.handleSetAttention]
  split
  · exact hP.reply _ _ h
  · next hn => exact hP.reply _ _ (hP.still (still_attentionSettings s hn) h)

theorem handleReadTrack : Q (handleReadTrack tag f s) := by
  simp only [Machine.handleReadTrack]
  repeat' split
  · exact hP.reply _ _ h
  all_goals exact hP.reply _ _ (hP.readRecord _ s h)

theorem handleReleaseTrack : Q (handleReleaseTrack tag f s) := by
  have hread := hP.readRecord (f.getD 0 0) s h
  simp only [Machine.handleReleaseTrack]
  repeat' split
  · exact hP.reply _ _ h
  · exact hP.reply _ _ hread
  · next hheld => exact hP.reply _ _ (hP.free _ _ (by rw [hheld]; decide) hread)
  · exact hP.reply _ _ hread

theorem handleListTracks : Q (handleListTracks tag s) := by
  have hread := foldl_keeps readAny (fun u id hu => unlessFaulted_keeps _ u hu (hP.readRecord id u)) (List.range 64) s h
  simp only [Machine.handleListTracks]
  split <;> exact hP.reply _ _ hread

theorem handleReadClip : Q (handleReadClip tag f s) := by
  simp only [Machine.handleReadClip]
  repeat' split
  · exact hP.reply _ _ h
  · exact hP.reply _ _ h
  · exact hP.reply _ _ (hP.still (still_markDamaged _ _ _) (hP.walkClip _ _ _ s h))

/-- Every request that the inspection state does not refuse. -/
theorem handle (r : Request) (payload : List Byte) (hs : refusedByState r s.ict.state = none) : Q (handle r tag payload s) := by
  have hstopped (hr : refusedByState .start s.ict.state = none) : s.ict.state = .stopped := by
    revert hr
    cases s.ict.state <;> simp [refusedByState]
  cases r with
  | ident => exact hP.reply _ _ h
  | readStatus => exact hP.reply _ _ (hP.still (s := s) (t := clearRead s) {} h)
  | reset => exact hP.resets s tag h
  | clearFault => exact hP.handleClearFault tag s h
  | start => exact hP.handleStart tag s h (hstopped hs)
  | stop => exact hP.handleStop tag s h
  | calibrate => exact hP.handleCalibrate tag _ s h (hstopped hs)
  | setHead => exact hP.handleSetHead tag _ s h
  | setEncoder => exact hP.handleSetEncoder tag _ s h
  | splice => exact hP.handleSplice tag s h
  | setLane => exact hP.handleSetLane tag _ s h
  | armLane => exact hP.handleArmLane tag _ s h
  | clearLane => exact hP.handleClearLane tag _ s h
  | setSpot => exact hP.handleSetSpot tag _ s h
  | setStreak => exact hP.handleSetStreak tag _ s h
  | setClips => exact hP.handleSetClips tag _ s h
  | loadTable => exact hP.handleLoadTable tag _ s h payload
  | readTable => exact hP.handleReadTable tag _ s h
  | setPriority => exact hP.handleSetPriority tag _ s h
  | setFaultAction => exact hP.handleSetFaultAction tag _ s h
  | setAttention => exact hP.handleSetAttention tag _ s h
  | readTrack => exact hP.handleReadTrack tag _ s h
  | readClip => exact hP.handleReadClip tag _ s h
  | releaseTrack => exact hP.handleReleaseTrack tag _ s h
  | listTracks => exact hP.handleListTracks tag s h

theorem processFrame (fr : Frame) : Q (processFrame fr s) := by
  simp only [Machine.processFrame]
  split
  · exact hP.reply _ _ h
  · split
    · exact hP.reply _ _ h
    · next hs =>
      split
      · exact hP.handle _ s h _ _ hs
      · exact hP.reply _ _ h

end Answers

end Sys2Proof.Machine
end

section
/-! PROOFS. What every step keeps that every event, its settling and the resets keep. -/

namespace Sys2Proof.Machine

/-! ## The receiver (R157 to R160) -/

/-- A property that the receiver's states, the gap timer, a REJECT and a good frame keep. -/
structure KeptByReceiver (P : State → Prop) : Prop where
  listen : ∀ s rx gap, P s → P (s.setRx rx gap)
  reach : ∀ s t, P s → P (s.reach t)
  reject : ∀ reason tag s, P s → P (rejectFrame reason tag s)
  judge : ∀ fr s, P s → P (judgeGood fr s)

namespace KeptByReceiver

variable {P : State → Prop} (hP : KeptByReceiver P)

include hP

theorem receiveByte (b : Byte) (s : State) (h : P s) : P (receiveByte b s) := by
  have heard (rx : Receiver) : P (s.listen rx) := hP.listen s rx _ h
  rw [Machine.receiveByte]
  split
  · exact h
  · split
    · exact heard _
    · exact h
  · split
    · simp only [enterBody]
      repeat' split
      · exact hP.reject _ _ s h
      · exact heard _
      · exact heard _
    · exact heard _
  · split <;> exact heard _
  · exact heard _
  · split
    · exact hP.judge _ s h
    · exact hP.reject _ _ s h

theorem gapExpiry (s : State) (h : P s) : P (gapExpiry s) := by
  rw [Machine.gapExpiry]
  split
  · exact h
  · split
    · exact hP.reject _ _ _ (hP.reach s _ h)
    · exact hP.reject _ _ _ (hP.reach s _ h)
    · exact hP.reject _ _ _ (hP.reach s _ h)
    · exact h
    · exact h

theorem deliver (kind tag : Byte) (payload : List Byte) (s : State) (h : P s) : P (deliver kind tag payload s) := by
  have judged : P (if Config.payloadLimit < payload.length then rejectFrame .length tag s
      else judgeGood { kind := kind, tag := tag, payload := payload } s) := by
    split
    · exact hP.reject _ _ s h
    · exact hP.judge _ s h
  rw [Machine.deliver]
  split
  · exact h
  all_goals exact judged

end KeptByReceiver

/-! ## Steps -/

/-- A property that the events, their settling and the resets keep. -/
structure KeptBySteps (P : State → Prop) : Prop extends KeptByPosts P where
  clock : ∀ s now pins pending, P s → P { s with now := now, pins := pins, pending := pending }
  stage : ∀ event ∈ [handover, lncStage, spdStage, stiStage, trkStage], ∀ s, P s → P (event s)
  heard : KeptByReceiver P
  boundary : ∀ s, P s → P (arbitrate s)
  settles : ∀ s, P s → P (settle s)
  reset : ∀ s cause hold, P s → P { resetAll cause s with hold := hold }

namespace KeptBySteps

variable {P : State → Prop} (hP : KeptBySteps P)

include hP

theorem resetAll (cause : ResetCause) (s : State) (h : P s) : P (resetAll cause s) := hP.reset s cause none h

theorem frameBoundary (s : State) (h : P s) : P (frameBoundary s) := by
  rw [Machine.frameBoundary]
  split
  · exact hP.resetAll _ s h
  · exact hP.boundary s h

/-- An event in service keeps what the event keeps. -/
theorem inService {event : State → State} {s t : State} (he : P s → P (event s)) (h : P s) (ht : inService event s = .next t) :
    P t := by
  obtain rfl := Host.Outcome.next.inj ht
  split
  · exact h
  · exact hP.settles _ (he h)

theorem exec {c : Instr} {s t : State} (h : P s) (ht : exec c s = .next t) : P t := by
  have requested (kind tag : Byte) (payload : List Byte) (u : State) (hu : P u)
      (ht : Machine.inService (deliver kind tag payload) u = .next t) : P t := hP.inService (hP.heard.deliver _ _ _ u) hu ht
  have staged {event : State → State} (he : event ∈ [handover, lncStage, spdStage, stiStage, trkStage])
      (ht : Machine.inService event s = .next t) : P t := hP.inService (hP.stage event he s) h ht
  cases c with
  | encoderEdge ch level elapsed => exact hP.inService (hP.edge ch level _) (hP.clock s _ _ _ h) ht
  | standstillTimerExpiry => exact hP.inService (hP.standstillExpiry s) h ht
  | spliceIn rising => exact hP.inService (hP.spliceEdge rising _) (hP.clock s _ _ _ h) ht
  | calibrationTimerExpiry => exact hP.inService (hP.calibrationExpiry s) h ht
  | closeOutWaitExpiry => exact hP.inService (hP.closeOutExpiry s) h ht
  | headLineStart n => exact hP.inService (hP.lineStart n s) h ht
  | headRawLevel n level => exact hP.inService (hP.rawLevel n level s) h ht
  | headLineEnd n => exact hP.inService (hP.lineEnd n s) h ht
  | lineHandover => exact staged (by simp) ht
  | lncStage => exact staged (by simp) ht
  | spdStage => exact staged (by simp) ht
  | stiStage => exact staged (by simp) ht
  | trkStage => exact staged (by simp) ht
  | linkByte b elapsed => exact hP.inService (hP.heard.receiveByte b _) (hP.clock s _ _ _ h) ht
  | gapTimerExpiry => exact hP.inService (hP.heard.gapExpiry s) h ht
  | frameBoundary => exact hP.inService (hP.frameBoundary s) h ht
  | readStatus tag payload elapsed => exact requested _ _ _ _ (hP.clock s _ _ _ h) ht
  | powerOnReset =>
    obtain rfl := Host.Outcome.next.inj ht
    rw [powerOn]
    split
    · exact hP.resetAll _ s h
    · exact hP.reset s _ _ h
  | pinResetAssert =>
    obtain rfl := Host.Outcome.next.inj ht
    rw [pinAssert]
    split
    · exact hP.reset s _ _ h
    · exact h
  | pinResetEnd =>
    obtain rfl := Host.Outcome.next.inj ht
    rw [pinEnd]
    split
    · exact h
    · exact hP.resetAll _ s h
  | unknownKind | ident | reset | clearFault | start | stop | calibrate | setHead | setEncoder | splice | setLane | armLane
  | clearLane | setSpot | setStreak | setClips | loadTable | readTable | setPriority | setFaultAction | setAttention
  | readTrack | listTracks | releaseTrack | readClip => exact requested _ _ _ s h ht

theorem step {s t : State} (h : P s) (ht : step s = .next t) : P t := by
  rw [Machine.step] at ht
  split at ht
  · exact Host.Outcome.next.inj ht ▸ h
  · exact hP.exec (hP.clock s _ _ _ h) ht

end KeptBySteps

/-! ## Properties that have nothing to do with the link -/

/-- A property that does not see the clock, the pins, the link, the choices counted and the commands that wait. -/
def Unlinked (P : State → Prop) : Prop :=
  ∀ (s : State) (now : Nat) (pins : Pins) (lnk : Lnk) (choices : Nat) (pending : List Instr), P s → P { s with now := now, pins := pins, lnk := lnk, choices := choices, pending := pending }

section
variable {P : State → Prop} (hu : Unlinked P)
include hu

theorem Unlinked.lnk (s : State) (lnk : Lnk) (h : P s) : P { s with lnk := lnk } := hu s s.now s.pins lnk s.choices s.pending h

theorem Unlinked.rejectFrame (reason : RejectReason) (tag : Byte) (s : State) (h : P s) : P (rejectFrame reason tag s) := by
  simp only [Machine.rejectFrame]
  split <;> exact hu.lnk s _ h

theorem Unlinked.judgeGood (fr : Frame) (s : State) (h : P s) : P (judgeGood fr s) := by
  rw [Machine.judgeGood]
  split
  · exact hu.lnk s _ h
  · exact hu.rejectFrame _ _ s h

theorem Unlinked.heard : KeptByReceiver P where
  listen s _ _ h := hu.lnk s _ h
  reach s _ h := hu s _ s.pins s.lnk s.choices s.pending h
  reject := hu.rejectFrame
  judge := hu.judgeGood

omit hu in
theorem still_leave (s : State) {v : Record} (h : s.rpq.offered = some v) : Still s { s with rpq := s.rpq.leave v } where
  queue hq := by
    have hmem := pick_mem _ _ _ h
    have := List.length_pos_of_mem hmem
    simp only [Rpq.leave]
    split <;> simp only [Rpq.enter, List.length_append, List.length_erase_of_mem hmem, List.length_singleton] <;> omega
  settings hs := by
    have : (s.rpq.leave v).watermark = s.rpq.watermark ∧ (s.rpq.leave v).attention = s.rpq.attention := by
      simp only [Rpq.leave]
      split <;> exact ⟨rfl, rfl⟩
    simpa only [State.settingsLegal, this] using hs

variable (hP : KeptByEvents P)
include hP

theorem Unlinked.beginReport (s : State) {v : Record} (hv : s.rpq.offered = some v) (h : P s) : P (s.beginReport v) :=
  hu.lnk { s with rpq := s.rpq.leave v } _ (hP.still (still_leave s hv) h)

theorem Unlinked.arbitrate (s : State) (h : P s) : P (arbitrate s) := by
  rw [Machine.arbitrate]
  split
  · exact hu.lnk s _ h
  · split
    · next hv => exact hu.beginReport hP s hv h
    · exact hu.lnk s _ h

theorem Unlinked.sends (s : State) (h : P s) : P s.sends := by
  have chosen (n : Nat) : P { s with choices := n } := hu s s.now s.pins s.lnk n s.pending h
  rcases s.sends_cases with he | ⟨n, ⟨r, rest, -, he⟩ | ⟨v, hv, he⟩⟩ <;> rw [he]
  · exact h
  · exact hu.lnk { s with choices := n } _ (chosen n)
  · exact hu.beginReport hP _ hv (chosen n)

theorem Unlinked.answers : Answers P P where
  toKeptByEvents := hP
  reply s _ h := hu.lnk s _ h
  stops s _ hr h := hP.beginStop _ _ hr (hu.lnk s _ h)
  resets s _ h := hu.lnk s _ h

theorem Unlinked.settle (s : State) (h : P s) : P (settle s) := by
  have served (s : State) (h : P s) : P (serveAll s) := by
    refine serve_keeps (P := P) (fun s k h => hu s s.now s.pins s.lnk k s.pending h) (fun c s _ h => ?_)
      (fun r s h => hu.lnk s _ h) _ s h
    cases c with
    | inProgress r => exact hu.lnk s _ h
    | head fr rest => exact hP.finishProcedures _ ((hu.answers hP).processFrame _ (hu.lnk s _ h) fr)
  exact served _ (hu.sends hP _ (served _ (hP.finishProcedures s h)))

/-- The steps keep a property that does not see the link, when the stages of a line and the resets do. -/
theorem Unlinked.keptBySteps (hstage : ∀ event ∈ [handover, lncStage, spdStage, stiStage, trkStage], ∀ s, P s → P (event s))
    (hreset : ∀ s cause hold, P s → P { resetAll cause s with hold := hold }) : KeptBySteps P where
  toKeptByPosts := hP.toKeptByPosts
  clock s now pins pending h := hu s now pins s.lnk s.choices pending h
  stage := hstage
  heard := hu.heard
  boundary := hu.arbitrate hP
  settles := hu.settle hP
  reset := hreset

end

/-- The stages of a line keep what `KeptByStages` names. -/
theorem KeptByStages.stage {P : State → Prop} (hP : KeptByStages P) :
    ∀ event ∈ [Machine.handover, Machine.lncStage, Machine.spdStage, Machine.stiStage, Machine.trkStage],
      ∀ s, P s → P (event s) := by
  simp only [List.forall_mem_cons]
  exact ⟨hP.handover, hP.lncStage, hP.spdStage, hP.stiStage, hP.trkStage, fun _ h => absurd h List.not_mem_nil⟩

/-! ## The capacities of the link's queues (Table III) -/

/-- The link's queue and buffer hold no more than their sizes. -/
def Lnk.fits (l : Lnk) : Prop := l.requests.length ≤ Config.requestQueueSize ∧ l.replies.length ≤ Config.replyBufferSize

/-- A link that has given its place of the reply buffer to the head of its request queue. -/
def Lnk.grants (l : Lnk) : Prop :=
  l.requests.length ≤ Config.requestQueueSize ∧ l.replies.length < Config.replyBufferSize ∧ l.inProgress = none

/-- A property of the link alone. -/
theorem keptByEvents_link {L : Lnk → Prop} (hf : ∀ s d, L s.lnk → L (State.finishRequest s d).lnk) :
    KeptByEvents fun s => L s.lnk where
  toKeptByPosts :=
    .of_stable
      { take := fun _ _ _ h => h
        count := fun _ _ h => h
        stop := fun _ _ _ h => h
        words := fun _ _ _ h => h
        free := fun _ _ _ h => h
        release := fun s h => by
          simp only [State.releaseLine]
          split <;> exact h
        abort := fun _ h => h
        drop := fun _ h => h
        lanes := fun _ h => h
        fatal := fun _ h => h
        finish := hf }
      (fun hs h => hs.link ▸ h) (fun _ _ _ h => h) fun _ _ _ _ _ _ h => h
  state _ _ _ h := h
  finish := hf

theorem fits_keptByEvents : KeptByEvents fun s => s.lnk.fits := keptByEvents_link fun s d ⟨hq, hr⟩ => by
  simp only [State.finishRequest]
  split
  · split
    · exact ⟨hq, by simpa using ‹_›⟩
    · exact ⟨hq, hr⟩
  · exact ⟨hq, hr⟩
  · exact ⟨hq, hr⟩

theorem grants_keptByEvents : KeptByEvents fun s => s.lnk.grants := keptByEvents_link fun s d h => by
  simpa only [finishRequest_none d h.2.2] using h

theorem fits_reply {s : State} (r : Reply) (hq : s.lnk.requests.length ≤ Config.requestQueueSize)
    (hl : s.lnk.replies.length < Config.replyBufferSize) : (s.reply r).lnk.fits := ⟨hq, by simpa using hl⟩

theorem Lnk.grants.fits {l : Lnk} (h : l.grants) : l.fits := ⟨h.1, Nat.le_of_lt h.2.1⟩

/-- The place granted holds the reply of a request. -/
theorem grants_answers : Answers (fun s => s.lnk.grants) fun s => s.lnk.fits where
  toKeptByEvents := grants_keptByEvents
  reply _ r h := fits_reply r h.1 h.2.1
  stops _ _ hr h := fits_keptByEvents.beginStop _ _ hr h.fits
  resets _ _ h := fits_reply _ h.1 h.2.1

theorem fits_serve (n : Nat) (s : State) (h : s.lnk.fits) : (serve n s).lnk.fits := by
  induction n generalizing s with
  | zero => exact h
  | succ n ih =>
    rcases serve_succ_cases n s with ⟨he, -⟩ | ⟨hl, k, ⟨c, hc, he⟩ | ⟨r, -, he⟩⟩ <;> rw [he]
    · exact h
    · refine ih _ ?_
      rcases Lnk.claimant_some hc with ⟨r, rfl, -⟩ | ⟨fr, rest, rfl, hq, hp⟩
      · exact fits_reply r h.1 hl
      · have hrest : rest.length ≤ Config.requestQueueSize :=
          Nat.le_of_succ_le (by simpa only [hq, List.length_cons] using h.1)
        exact fits_keptByEvents.finishProcedures _
          (grants_answers.processFrame { s with choices := k, lnk := { s.lnk with requests := rest } } ⟨hrest, hl, hp⟩ fr)
    · exact ih _ (fits_reply r h.1 hl)

theorem fits_beginReply {s : State} (r : Reply) {rest : List Reply} (hr : s.lnk.replies = r :: rest) (h : s.lnk.fits) :
    (s.beginReply r rest).lnk.fits := by
  obtain ⟨hq, hl⟩ := h
  rw [hr] at hl
  exact ⟨hq, Nat.le_of_succ_le hl⟩

theorem fits_arbitrate (s : State) (h : s.lnk.fits) : (arbitrate s).lnk.fits := by
  obtain ⟨hq, hl⟩ := h
  rw [arbitrate]
  split
  · next r rest hr => exact fits_beginReply r hr ⟨hq, hl⟩
  · split <;> exact ⟨hq, hl⟩

theorem fits_sends (s : State) (h : s.lnk.fits) : s.sends.lnk.fits := by
  obtain ⟨hq, hl⟩ := h
  rcases s.sends_cases with he | ⟨n, ⟨r, rest, hr, he⟩ | ⟨v, -, he⟩⟩ <;> rw [he]
  · exact ⟨hq, hl⟩
  · exact fits_beginReply (s := { s with choices := n }) r hr ⟨hq, hl⟩
  · exact ⟨hq, hl⟩

theorem fits_settle (s : State) (h : s.lnk.fits) : (settle s).lnk.fits :=
  fits_serve _ _ (fits_sends _ (fits_serve _ _ (fits_keptByEvents.finishProcedures s h)))

theorem fits_rejectFrame (reason : RejectReason) (tag : Byte) (s : State) (h : s.lnk.fits) :
    (rejectFrame reason tag s).lnk.fits := by
  simp only [rejectFrame]
  split
  · next hl => exact fits_reply _ h.1 hl
  · exact h

theorem fits_judgeGood (fr : Frame) (s : State) (h : s.lnk.fits) : (judgeGood fr s).lnk.fits := by
  rw [judgeGood]
  split
  · next hl => exact ⟨by simpa [State.setRx] using hl, h.2⟩
  · exact fits_rejectFrame _ _ s h

theorem fits_heard : KeptByReceiver fun s => s.lnk.fits where
  listen _ _ _ h := h
  reach _ _ h := h
  reject := fits_rejectFrame
  judge := fits_judgeGood

theorem fits_keptByStages : KeptByStages fun s => s.lnk.fits where
  toKeptByPosts := fits_keptByEvents.toKeptByPosts
  opened _ _ _ _ _ _ _ h := h
  process _ _ _ h := h
  grown _ _ _ _ _ _ _ _ h := h

theorem fits_keptBySteps : KeptBySteps fun s => s.lnk.fits where
  toKeptByPosts := fits_keptByEvents.toKeptByPosts
  clock _ _ _ _ h := h
  stage := fits_keptByStages.stage
  heard := fits_heard
  boundary := fits_arbitrate
  settles := fits_settle
  reset _ _ _ _ := ⟨Nat.zero_le _, Nat.zero_le _⟩

end Sys2Proof.Machine
end

section
/-! PROOFS. The memories, the report queue and the settings, and the partitions of ids and blocks, through every step (R106, R132). -/

namespace Sys2Proof.Machine

open scoped List

/-! ## The memories, the report queue and the settings -/

/-- The memories are in canonical form, the report queue fits, and the settings are in their ranges. -/
def State.sound (s : State) : Prop :=
  s.memoryWf = true ∧ s.rpq.queue.length ≤ Config.reportQueueSize ∧ s.settingsLegal

theorem Still.sound {s t : State} (h : Still s t) : s.sound → t.sound :=
  fun ⟨hm, hq, hl⟩ => ⟨h.memory hm, h.queue hq, h.settings hl⟩

theorem memoryWf_slot {l : Las} (i : Nat) (h : l.rawWf) :
    Las.rawWf { l with slots := l.slots.set i Slot.blank, processing := none } :=
  h.of_mem fun _ hsl => (List.mem_or_eq_of_mem_set hsl).imp_right fun he => by rw [he]; rfl

theorem sound_dropAll (s : State) (h : s.sound) : s.dropAll.sound := by
  simpa only [State.sound, State.memoryWf, State.settingsLegal, State.dropAll] using h

theorem sound_stable : Stable State.sound where
  take s r c h := (still_take s r c).sound h
  count _ _ h := h
  stop _ _ _ h := h
  words _ _ _ h := h
  free _ _ _ h := h
  release s h := by
    obtain ⟨hm, hrest⟩ := h
    simp only [State.releaseLine]
    split
    · exact ⟨hm, hrest⟩
    · exact ⟨memoryWf_las (memoryWf_slot _) hm, hrest⟩
  abort s h := (still_leaveCalibration s _).sound h
  drop := sound_dropAll
  lanes _ h := h
  fatal _ h := h
  finish s d h := by
    simp only [State.finishRequest]
    split
    · split <;> exact h
    · exact h
    · exact h

theorem sound_keptByPosts : KeptByPosts State.sound :=
  .of_stable sound_stable Still.sound (fun _ _ _ h => h) fun _ _ _ _ _ _ h => h

theorem sound_keptByStages : KeptByStages State.sound where
  toKeptByPosts := sound_keptByPosts
  opened _ _ _ _ _ _ _ h := h
  process _ _ _ h := h
  grown _ _ _ _ _ _ _ _ h := h

theorem sound_keptByEvents : KeptByEvents State.sound where
  toKeptByPosts := sound_keptByPosts
  state _ _ _ h := h
  finish := sound_stable.finish

theorem sound_unlinked : Unlinked State.sound := fun _ _ _ _ _ _ h => h

/-- The settings of a reset are in their ranges. -/
theorem settingsLegal_resetAll (cause : ResetCause) (s : State) : (resetAll cause s).settingsLegal := by
  simp only [State.settingsLegal, resetAll, Enc.reset, Spd.reset, Trk.reset, Sti.reset, Cls.reset, Rpq.reset]
  decide

/-- A reset keeps the tables, or makes them fresh. -/
theorem memoryWf_resetAll (cause : ResetCause) (s : State) (h : s.memoryWf = true) : (resetAll cause s).memoryWf = true := by
  obtain ⟨hdark, hgain, -⟩ := (memoryWf_iff s).mp h
  rw [memoryWf_iff]
  refine ⟨?_, ?_, rfl, rfl, rfl, fun sl hsl => ?_⟩
  · simp only [resetAll, Ffc.reset]
    split
    · exact hdark
    · rfl
  · simp only [resetAll, Ffc.reset]
    split
    · exact hgain
    · rfl
  · rw [List.eq_of_mem_replicate hsl]
    rfl

theorem sound_keptBySteps : KeptBySteps State.sound :=
  sound_unlinked.keptBySteps sound_keptByEvents sound_keptByStages.stage fun s cause _ h =>
    ⟨memoryWf_resetAll cause s h.1, Nat.zero_le _, settingsLegal_resetAll cause s⟩

/-! ## The partitions -/

/-- The ids of the slots that are not FREE. -/
def State.taken (s : State) : List Nat := (List.range 64).filter fun id => (s.track id).state ≠ .free

/-- The ids and the blocks are partitioned. -/
def State.partitioned (s : State) : Prop := s.idsPartitioned ∧ s.blocksPartitioned

theorem State.mem_taken {s : State} {id : Nat} : id ∈ s.taken ↔ id < 64 ∧ (s.track id).state ≠ .free := by
  simp [State.taken]

/-- The partitions see nothing of the tracks but their states and blocks. -/
theorem Still.partitioned {s t : State} (h : Still s t) (hs : s.partitioned) : t.partitioned := by
  have hblocks (u : State) : u.trk.slots.flatMap (fun t => t.clip.blocks) = (u.trk.slots.map Track.holding).flatMap Prod.snd := by
    simp only [List.flatMap_map]
    rfl
  obtain ⟨⟨hl, hids⟩, hfree, hpool⟩ := hs
  refine ⟨⟨?_, ?_⟩, ?_, ?_⟩
  · rw [← hl, ← List.length_map (f := Track.holding), h.tracks, List.length_map]
  · have hstate (id : Nat) : (t.track id).state = (s.track id).state := congrArg Prod.fst (Trk.holding_slot h.tracks id)
    simpa only [h.freeList, hstate] using hids
  · intro x hx hf
    have hmem : x.holding ∈ s.trk.slots.map Track.holding := h.tracks ▸ List.mem_map_of_mem hx
    obtain ⟨y, hy, he⟩ := List.mem_map.mp hmem
    exact (congrArg Prod.snd he).symm.trans (hfree y hy ((congrArg Prod.fst he).trans hf))
  · rw [hblocks, h.pool, h.tracks, ← hblocks]
    exact hpool

/-- The slots, one of them taken out. -/
theorem slots_perm {s : State} {id : Nat} (hl : id < s.trk.slots.length) :
    s.trk.slots.Perm (s.track id :: s.trk.slots.eraseIdx id) := by
  have := (List.getElem_cons_eraseIdx_perm hl).symm
  rwa [show s.trk.slots[id] = s.track id by simp [State.track, Trk.slot, List.getD, hl]] at this

/-- A slot rewritten, its id and its blocks passing to or from the free ones. -/
theorem partitioned_rewritten {s u : State} {id : Nat} {t : Track} (hu : u.trk.slots = s.trk.slots.set id t)
    (hl : id < s.trk.slots.length) (hfree : t.state = .free → t.clip.blocks = [])
    (hids : (u.trk.freeList ++ u.taken).Perm (s.trk.freeList ++ s.taken))
    (hpool : (u.cls.pool ++ t.clip.blocks).Perm (s.cls.pool ++ (s.track id).clip.blocks)) (h : s.partitioned) : u.partitioned := by
  obtain ⟨⟨hlen, hpart⟩, hblank, hblocks⟩ := h
  refine ⟨⟨by simpa [hu] using hlen, hids.trans hpart⟩, fun x hx hx' => ?_, ?_⟩
  · rw [hu] at hx
    rcases List.mem_or_eq_of_mem_set hx with hx | rfl
    · exact hblank x hx hx'
    · exact hfree hx'
  · have hset := (List.set_perm_cons_eraseIdx hl t).flatMap_right fun t => t.clip.blocks
    have hold := (slots_perm hl).flatMap_right fun t => t.clip.blocks
    rw [hu]
    calc u.cls.pool ++ (s.trk.slots.set id t).flatMap (fun t => t.clip.blocks)
      _ ~ u.cls.pool ++ (t.clip.blocks ++ (s.trk.slots.eraseIdx id).flatMap fun t => t.clip.blocks) := hset.append_left _
      _ ~ s.cls.pool ++ ((s.track id).clip.blocks ++ (s.trk.slots.eraseIdx id).flatMap fun t => t.clip.blocks) := by
        simpa only [List.append_assoc] using hpool.append_right _
      _ ~ s.cls.pool ++ s.trk.slots.flatMap (fun t => t.clip.blocks) := hold.symm.append_left _
      _ ~ List.range 1024 := hblocks

/-- A track of a state other than blank has a place in the table. -/
theorem State.lt_of_state_ne_free {s : State} {id : Nat} (h : (s.track id).state ≠ .free) : id < s.trk.slots.length := by
  by_contra hge
  exact h (by rw [State.track_of_le (Nat.le_of_not_lt hge)]; rfl)

/-- Rewriting a track that is not FREE with one that is not leaves the same ids taken. -/
theorem State.taken_congr {s u : State} (h : ∀ id < 64, (u.track id).state = .free ↔ (s.track id).state = .free) :
    u.taken = s.taken :=
  List.filter_congr fun id hid => by simp only [ne_eq, h id (List.mem_range.mp hid)]

/-- The ids taken, when one of them is left out. -/
theorem State.taken_perm {s u : State} {id : Nat} (hid : id ∈ s.taken) (hf : (u.track id).state = .free)
    (h : ∀ j, j ≠ id → ((u.track j).state = .free ↔ (s.track j).state = .free)) : s.taken.Perm (id :: u.taken) := by
  have herase : u.taken = s.taken.erase id := by
    rw [State.taken, State.taken, (List.nodup_range.filter _).erase_eq_filter, List.filter_filter]
    refine List.filter_congr fun j _ => ?_
    by_cases hj : j = id
    · simp [hj, hf]
    · simp [hj, h j hj]
  rw [herase]
  exact List.perm_cons_erase hid

theorem partitioned_free (s : State) (id : Nat) (hf : (s.track id).state ≠ .free) (h : s.partitioned) :
    (s.freeTrack id).partitioned := by
  have hl := State.lt_of_state_ne_free hf
  have hmem : id ∈ s.taken := State.mem_taken.mpr ⟨h.1.1 ▸ hl, hf⟩
  have htaken := State.taken_perm (u := s.freeTrack id) hmem (by rw [State.track_freeTrack, if_pos rfl]; rfl)
    fun j hj => by rw [State.track_freeTrack, if_neg hj]
  refine partitioned_rewritten (u := s.freeTrack id) rfl hl (fun _ => rfl) ?_ ?_ h
  · calc (s.freeTrack id).trk.freeList ++ (s.freeTrack id).taken
      _ = s.trk.freeList ++ (id :: (s.freeTrack id).taken) := by simp [State.freeTrack]
      _ ~ s.trk.freeList ++ s.taken := htaken.symm.append_left _
  · change ((s.cls.pool ++ (s.track id).clip.blocks) ++ []).Perm _
    rw [List.append_nil]

/-- A table of blank slots with every id and every block free. -/
theorem partitioned_fresh {s : State} (hs : s.trk.slots = List.replicate 64 Track.blank) (hf : s.trk.freeList = List.range 64)
    (hp : s.cls.pool = List.range 1024) : s.partitioned := by
  have hblank (id : Nat) : s.track id = Track.blank := by
    simp only [State.track, Trk.slot, hs]
    exact List.getElem?_getD_replicate_default_eq _ _ _
  have hall (t : Track) (ht : t ∈ s.trk.slots) : t = Track.blank := List.eq_of_mem_replicate (hs ▸ ht)
  have htaken : s.taken = [] := List.filter_eq_nil_iff.mpr fun id _ => by simp [hblank, Track.blank]
  have hblocks : s.trk.slots.flatMap (fun t => t.clip.blocks) = [] :=
    List.flatMap_eq_nil_iff.mpr fun t ht => congrArg (fun t => t.clip.blocks) (hall t ht)
  refine ⟨⟨by rw [hs]; rfl, ?_⟩, fun t ht _ => congrArg (fun t => t.clip.blocks) (hall t ht), ?_⟩
  · change (s.trk.freeList ++ s.taken).Perm _
    rw [htaken, List.append_nil, hf]
  · rw [hblocks, List.append_nil, hp]

/-- A track that is not FREE rewritten with one that is not, its blocks with those that leave the pool. -/
theorem partitioned_setTrack {s u : State} {id : Nat} {t : Track} (hu : u.trk.slots = s.trk.slots.set id t)
    (hf : (s.track id).state ≠ .free) (ht : t.state ≠ .free) (hfree : u.trk.freeList = s.trk.freeList)
    (hpool : (u.cls.pool ++ t.clip.blocks).Perm (s.cls.pool ++ (s.track id).clip.blocks)) (h : s.partitioned) : u.partitioned := by
  have hl := State.lt_of_state_ne_free hf
  have htrack (j : Nat) : u.track j = (s.setTrack id t).track j := by simp only [State.track, Trk.slot, State.setTrack, hu]
  have htaken : u.taken = s.taken := State.taken_congr fun j _ => by
    rw [htrack]
    by_cases hj : j = id
    · subst hj
      rw [State.track_setTrack_same s j t hl]
      exact iff_of_false ht hf
    · rw [State.track_setTrack_other s id j t hj]
  exact partitioned_rewritten hu hl (fun he => absurd he ht) (by rw [htaken, hfree]) hpool h

theorem partitioned_opened (s : State) (id : Nat) (rest : List Nat) (t : Track) (hl : s.trk.freeList = id :: rest)
    (ht : t.holding = (.open, [])) (h : s.partitioned) :
    (State.setTrack { s with trk := { s.trk with freeList := rest } } id t).partitioned := by
  obtain ⟨hstate, hblocks⟩ := Prod.mk.inj ht
  have hperm : (id :: (rest ++ s.taken)).Perm (List.range 64) := by
    have := h.1.2
    rw [hl] at this
    exact this
  have hid : id < 64 := List.mem_range.mp (hperm.mem_iff.mp List.mem_cons_self)
  have hfree : (s.track id).state = .free := by
    by_contra hne
    have hnodup := (List.nodup_cons.mp (hperm.nodup_iff.mpr List.nodup_range)).1
    exact hnodup (List.mem_append_right _ (State.mem_taken.mpr ⟨hid, hne⟩))
  have hlen : id < s.trk.slots.length := h.1.1.symm ▸ hid
  let u := State.setTrack { s with trk := { s.trk with freeList := rest } } id t
  have hsame : u.track id = t := State.track_setTrack_same { s with trk := { s.trk with freeList := rest } } id t hlen
  have hother (j : Nat) (hj : j ≠ id) : u.track j = s.track j :=
    State.track_setTrack_other { s with trk := { s.trk with freeList := rest } } id j t hj
  have htaken := State.taken_perm (s := u) (u := s) (id := id)
    (State.mem_taken.mpr ⟨hid, by rw [hsame, hstate]; decide⟩) hfree fun j hj => by rw [hother j hj]
  have hnone : (s.track id).clip.blocks = [] := h.2.1 _ (by simp [State.track, Trk.slot, List.getD, hlen]) hfree
  have hids : (u.trk.freeList ++ u.taken).Perm (s.trk.freeList ++ s.taken) := by
    calc rest ++ u.taken
      _ ~ rest ++ id :: s.taken := htaken.append_left _
      _ ~ id :: (rest ++ s.taken) := List.perm_middle
      _ = s.trk.freeList ++ s.taken := by rw [hl]; rfl
  refine partitioned_rewritten (s := s) (u := u) rfl hlen (fun he => by rw [hstate] at he; cases he) hids ?_ h
  rw [hblocks, hnone]
  exact .refl _

theorem partitioned_dropAll (s : State) : s.dropAll.partitioned := by
  refine partitioned_fresh ?_ ?_ ?_ <;> simp only [State.dropAll]

theorem partitioned_resetAll (cause : ResetCause) (s : State) : (resetAll cause s).partitioned := by
  refine partitioned_fresh ?_ ?_ ?_ <;> simp only [resetAll, Trk.reset, Cls.reset]

theorem partitioned_stable : Stable State.partitioned where
  take s r c h := (still_take s r c).partitioned h
  count _ _ h := h
  stop _ _ _ h := h
  words s id l h := (still_setTrack s id (t := { s.track id with wrongWords := l }) rfl).partitioned h
  free s id hh h := partitioned_free s id (by rw [hh]; decide) h
  release s h := by
    simp only [State.releaseLine]
    split <;> exact h
  abort _ h := h
  drop s _ := partitioned_dropAll s
  lanes _ h := h
  fatal _ h := h
  finish s d h := by
    simp only [State.finishRequest]
    split
    · split <;> exact h
    · exact h
    · exact h

theorem partitioned_keptByPosts : KeptByPosts State.partitioned :=
  .of_stable partitioned_stable Still.partitioned partitioned_free fun s id t ho ht hb h =>
    partitioned_setTrack (u := s.setTrack id t) rfl (by rw [ho]; decide) (by rw [ht]; decide) rfl (hb ▸ .refl _) h

theorem partitioned_keptByStages : KeptByStages State.partitioned where
  toKeptByPosts := partitioned_keptByPosts
  opened s id rest t hl ht _ h := partitioned_opened s id rest t hl ht h
  process _ _ _ h := h
  grown s id b rest t hp hf ht h := by
    obtain ⟨hstate, hblocks⟩ := Prod.mk.inj ht
    refine partitioned_setTrack (s := s) (u := State.setTrack { s with cls := { s.cls with pool := rest } } id t) rfl hf
      (by rw [hstate]; exact hf) rfl ?_ h
    rw [hblocks, hp, ← List.append_assoc]
    exact List.perm_append_singleton _ _

theorem partitioned_keptByEvents : KeptByEvents State.partitioned where
  toKeptByPosts := partitioned_keptByPosts
  state _ _ _ h := h
  finish := partitioned_stable.finish

theorem partitioned_unlinked : Unlinked State.partitioned := fun _ _ _ _ _ _ h => h

theorem partitioned_keptBySteps : KeptBySteps State.partitioned :=
  partitioned_unlinked.keptBySteps partitioned_keptByEvents partitioned_keptByStages.stage
    fun s cause _ _ => partitioned_resetAll cause s

/-! ## The invariant -/

theorem State.inv_iff (s : State) : s.Inv ↔ s.sound ∧ s.lnk.fits ∧ s.partitioned := by
  simp only [State.Inv, State.queuesFit, State.sound, State.partitioned, Lnk.fits]
  tauto

theorem inv_reset : State.reset.Inv :=
  (State.inv_iff _).mpr ⟨⟨reset_memoryWf, Nat.zero_le _, settingsLegal_resetAll .powerOn State.reset⟩,
    ⟨Nat.zero_le _, Nat.zero_le _⟩, partitioned_resetAll .powerOn State.reset⟩

end Sys2Proof.Machine

namespace Sys2Proof.Tracks

open Sys2Proof.Machine

/-- Settles O58: the parts of the invariant are each kept by what the events do, and so by every step. -/
theorem stepKeepsInvariant : Obligations.StepKeepsInvariant := by
  intro s t hinv hstep
  obtain ⟨hsound, hfits, hpart⟩ := s.inv_iff.mp hinv
  exact t.inv_iff.mpr ⟨sound_keptBySteps.step hsound hstep, fits_keptBySteps.step hfits hstep,
    partitioned_keptBySteps.step hpart hstep⟩

end Sys2Proof.Tracks
end

section
/-! PROOFS. Outside RUNNING and STOPPING no line is in processing and no track is OPEN (R121), through every step. -/

namespace Sys2Proof.Machine

/-! ## Calm -/

theorem Still.calm {s t : State} (h : Still s t) (hs : s.calm) : t.calm := by
  obtain ⟨hp, ho⟩ := hs
  refine ⟨h.processing.trans hp, fun id hid => ?_⟩
  have hstate : (t.track id).state = (s.track id).state := congrArg Prod.fst (Trk.holding_slot h.tracks id)
  rw [hstate]
  exact ho id hid

theorem Still.length {s t : State} (h : Still s t) : t.trk.slots.length = s.trk.slots.length := by
  simpa only [List.length_map] using congrArg List.length h.tracks

theorem calm_freeTrack {s : State} (id : Nat) (h : s.calm) : (s.freeTrack id).calm := by
  refine ⟨h.1, fun j hj => ?_⟩
  rw [State.track_freeTrack]
  split
  · decide
  · exact h.2 j hj

theorem calm_setTrack {s : State} {id : Nat} {t : Track} (ht : t.state ≠ .open) (h : s.calm) : (s.setTrack id t).calm := by
  refine ⟨h.1, fun j hj => ?_⟩
  rw [State.track_setTrack]
  split
  · exact ht
  · exact h.2 j hj

theorem calm_dropAll {s : State} (h : s.idle) : s.dropAll.calm := ⟨h, fun id _ => by rw [State.track_dropAll]; decide⟩

theorem calm_releaseLine {s : State} (h : s.calm) : s.releaseLine.calm := by
  simp only [State.releaseLine]
  split
  · exact h
  · exact ⟨rfl, h.2⟩

theorem State.releaseLine_idle (s : State) : s.releaseLine.idle := by
  simp only [State.releaseLine]
  split
  · assumption
  · rfl

theorem releaseLine_same (s : State) : s.releaseLine.ict.state = s.ict.state ∧ s.releaseLine.trk = s.trk := by
  simp only [State.releaseLine]
  split <;> exact ⟨rfl, rfl⟩

/-- MEMORY_FATAL keeps a property that holds of a FAULTED part with no line in processing and no track. -/
theorem fatal_keeps {P : State → Prop} (still : ∀ {s t}, Still s t → P s → P t) (release : ∀ s, P s → P s.releaseLine)
    (drop : ∀ s, s.ict.state = .faulted → P s → P s.dropAll)
    (shut : ∀ s, s.idle → P s →
      P { s.dropAll with
        lnc := s.lnc.map Lane.stopStep
        ict := { s.ict with state := .faulted, lastStop := .fault .memoryFatal, limitPending := false } })
    (finish : ∀ s d, P s → P (s.finishRequest d)) {post : Post} (hp : ∀ r c s, P s → P (post r c s))
    (hi : ∀ r c s, State.idle s → State.idle (post r c s)) (s : State) (h : P s) : P (memoryFatalWith post s) := by
  have hcount : P { s with ict := s.ict.count .memoryFatal } := still (still_ict s) h
  have haborted (u : State) (hu : P u) : P (abortCalibrationWith post u) := by
    have hleft : P (u.leaveCalibration .aborted) := still (still_leaveCalibration u _) hu
    simp only [abortCalibrationWith]
    repeat' split
    · exact hp _ _ _ hleft
    · exact hleft
    · exact hu
  simp only [memoryFatalWith, State.unlessFaulted]
  split
  · next hf => exact drop _ hf hcount
  · have hleft := haborted _ (release _ hcount)
    have hidle := idle_stable.abortCalibrationWith hi _ (State.releaseLine_idle { s with ict := s.ict.count .memoryFatal })
    split
    · exact hleft
    · exact finish _ _ (hp _ _ _ (hp _ _ _ (shut _ hidle hleft)))

/-! ## Outside RUNNING and STOPPING -/

/-- The table has its 64 slots, and with no run going on or stopping the part is calm. When it is `held` to that, a run goes on or stops,
or MEMORY_FATAL has ended it. -/
structure State.calmOutside (held : Prop) (s : State) : Prop where
  length : s.trk.slots.length = 64
  calm : ¬s.working → s.calm
  active : held → s.working ∨ s.ict.state = .faulted

theorem quiet_iff {s : State} (hl : s.trk.slots.length = 64) : s.quiet ↔ s.calmOutside False := by
  have hopen : (∀ t ∈ s.trk.slots, t.state ≠ .open) ↔ ∀ id < 64, (s.track id).state ≠ .open := by
    have htrack {id : Nat} (hid : id < s.trk.slots.length) : s.track id = s.trk.slots[id] := by
      simp [State.track, Trk.slot, List.getD, hid]
    rw [List.forall_mem_iff_getElem]
    exact ⟨fun h id hid => htrack (hl.symm ▸ hid) ▸ h id _, fun h id hid => htrack hid ▸ h id (hl ▸ hid)⟩
  have hcalm : s.quiet ↔ (¬s.working → s.calm) := by
    simp only [State.quiet, State.working, State.calm, hopen, not_or, and_imp]
  exact hcalm.trans ⟨fun h => ⟨hl, h, False.elim⟩, fun h => h.calm⟩

theorem not_working_congr {s t : State} (h : t.ict.state = s.ict.state) (hw : ¬t.working) : ¬s.working := by
  simpa only [State.working, h] using hw

section
variable {held : Prop}

/-- A change that leaves the inspection state alone. -/
theorem State.calmOutside.congr {s t : State} (h : s.calmOutside held) (hl : t.trk.slots.length = s.trk.slots.length)
    (hs : t.ict.state = s.ict.state) (hc : s.calm → t.calm) : t.calmOutside held where
  length := hl.trans h.length
  calm hw := hc (h.calm (not_working_congr hs hw))
  active ha := by simpa only [State.working, hs] using h.active ha

theorem calmOutside_shut {s : State} (held : Prop) (hi : s.idle) :
    State.calmOutside held { s.dropAll with
      lnc := s.lnc.map Lane.stopStep
      ict := { s.ict with state := .faulted, lastStop := .fault .memoryFatal, limitPending := false } } where
  length := by simp only [State.dropAll, List.length_replicate]
  calm _ := calm_dropAll hi
  active _ := .inr rfl

theorem calmOutside_finish (s : State) (d : Done) (h : s.calmOutside held) : (s.finishRequest d).calmOutside held := by
  simp only [State.finishRequest]
  split
  · split <;> exact h.congr rfl rfl id
  · exact h
  · exact h

theorem release_calmOutside (s : State) (h : s.calmOutside held) : s.releaseLine.calmOutside held :=
  have ⟨hstate, htrk⟩ := releaseLine_same s
  h.congr (by rw [htrk]) hstate calm_releaseLine

theorem calmOutside_keptByPosts (held : Prop) : KeptByPosts (State.calmOutside held) where
  still hs h := h.congr hs.length hs.state hs.calm
  stop _ _ _ h := ⟨h.length, fun hw => absurd (.inr rfl) hw, fun _ => .inl (.inr rfl)⟩
  free s id _ h := h.congr (List.length_set ..) rfl (calm_freeTrack id)
  hold s id t _ ht _ h := h.congr (List.length_set ..) rfl (calm_setTrack (by rw [ht]; decide))
  release := release_calmOutside
  fatal post hp hs s h := by
    refine fatal_keeps (fun hs h => h.congr hs.length hs.state hs.calm) release_calmOutside (fun s hf h => ?_)
      (fun s hi _ => calmOutside_shut held hi) calmOutside_finish hp (hs _ idle_stable) s h
    refine h.congr (Eq.trans ?_ h.length.symm) rfl fun hc => calm_dropAll hc.1
    simp only [State.dropAll, List.length_replicate]

/-- A line that goes on in processing and a track that is opened are so with a run going on or stopping. -/
theorem calmOutside_keptByStages : KeptByStages (State.calmOutside True) where
  toKeptByPosts := calmOutside_keptByPosts True
  opened s id rest t _ _ hf h := by
    have hw : s.working := (h.active trivial).resolve_right hf
    exact ⟨(List.length_set ..).trans h.length, absurd hw, fun _ => .inl hw⟩
  process s p hf h := by
    have hw : s.working := by
      by_contra hw
      exact hf ((h.active trivial).resolve_left hw) (h.calm hw).1
    exact ⟨h.length, absurd hw, fun _ => .inl hw⟩
  grown s id b rest t _ _ ht h := h.congr (List.length_set ..) rfl fun hc => by
    refine ⟨hc.1, fun j hj => ?_⟩
    rw [State.track_setTrack_state { s with cls := { s.cls with pool := rest } } id j t (Prod.mk.inj ht).1]
    exact hc.2 j hj

theorem calmOutside_keptByEvents : KeptByEvents (State.calmOutside False) where
  toKeptByPosts := calmOutside_keptByPosts False
  state s st hw h := by
    have hc : s.calm := hw.elim h.calm id
    exact ⟨h.length, fun _ => hc, False.elim⟩
  finish := calmOutside_finish

end

/-! ## The stages of a line -/

/-- With no line in processing, and with none handed over, a stage does nothing. -/
theorem stage_idle {s : State} (hi : s.idle) : lncStage s = s ∧ spdStage s = s ∧ stiStage s = s ∧ trkStage s = s := by
  rw [State.idle] at hi
  refine ⟨?_, ?_, ?_, ?_⟩ <;> simp only [lncStage, spdStage, stiStage, trkStage, hi]

/-- A part that is calm outside a run stays so in a stage that does nothing without a line. -/
theorem calmOutside_stage {event : State → State} (he : ∀ s, s.calmOutside True → (event s).calmOutside True) {s : State}
    (hi : s.idle → event s = s) (h : s.calmOutside False) : (event s).calmOutside False := by
  by_cases hw : s.working
  · obtain ⟨hl, hc, -⟩ := he s ⟨h.length, h.calm, fun _ => .inl hw⟩
    exact ⟨hl, hc, False.elim⟩
  · rw [hi (h.calm hw).1]
    exact h

/-- A calibration line is over in the event that hands it over. -/
theorem takeCalibrationLine_releases (i : Nat) {s : State} {p : Processing} (hp : s.las.processing = some p)
    (hs : s.ict.state ≠ .running) : ∃ ffc, takeCalibrationLine i s = State.releaseLine { s with ffc := ffc } := by
  unfold takeCalibrationLine
  exact ⟨_, endLine_releases (s := { s with ffc := _ }) hp fun hr => absurd hr hs⟩

theorem calmOutside_handover (s : State) (h : s.calmOutside False) : (handover s).calmOutside False := by
  by_cases hw : s.working
  · obtain ⟨hl, hc, -⟩ := calmOutside_keptByStages.handover s ⟨h.length, h.calm, fun _ => .inl hw⟩
    exact ⟨hl, hc, False.elim⟩
  · obtain ⟨hp, ho⟩ := h.calm hw
    have nothing (hn : handoverSlot s = none) : (handover s).calmOutside False := by
      rw [handover_none hn]
      exact h
    cases hs : s.ict.state with
    | running => exact absurd (.inl hs) hw
    | stopping => exact absurd (.inr hs) hw
    | stopped => exact nothing (handoverSlot_none (.inr (.inl hs)))
    | faulted => exact nothing (handoverSlot_none (.inr (.inr (.inr (.inl hs)))))
    | calibrating =>
      have hslot := handoverSlot_calibrating hp hs
      rcases s.las.firstBy_spec (·.claim) .calibration 8 with ⟨hnone, -⟩ | ⟨i, hi, ⟨-, -, hk⟩, -⟩
      · exact nothing (hslot.trans hnone)
      · obtain ⟨ffc, hline⟩ := takeCalibrationLine_releases i (s := s.handedOver i) rfl (by rw [State.handedOver, hs]; decide)
        obtain ⟨hstate, htrk⟩ := releaseLine_same { s.handedOver i with ffc := ffc }
        rw [handover_calibration (hslot.trans hi) hk, hline]
        refine h.congr (by rw [htrk]; rfl) hstate fun _ => ⟨State.releaseLine_idle _, fun id hid => ?_⟩
        rw [State.track, htrk]
        exact ho id hid

theorem calm_resetAll (cause : ResetCause) (s : State) : (resetAll cause s).calm := by
  refine ⟨rfl, fun id _ => ?_⟩
  have : (resetAll cause s).track id = Track.blank := List.getElem?_getD_replicate_default_eq _ _ _
  rw [this]
  decide

theorem calmOutside_keptBySteps : KeptBySteps (State.calmOutside False) := by
  have hunlinked : Unlinked (State.calmOutside False) := fun _ _ _ _ _ _ h => ⟨h.length, h.calm, False.elim⟩
  refine hunlinked.keptBySteps calmOutside_keptByEvents ?_ fun s cause hold _ => ?_
  · simp only [List.forall_mem_cons]
    have hstages := calmOutside_keptByStages
    exact ⟨calmOutside_handover, fun s => calmOutside_stage hstages.lncStage fun hi => (stage_idle hi).1,
      fun s => calmOutside_stage hstages.spdStage fun hi => (stage_idle hi).2.1,
      fun s => calmOutside_stage hstages.stiStage fun hi => (stage_idle hi).2.2.1,
      fun s => calmOutside_stage hstages.trkStage fun hi => (stage_idle hi).2.2.2, fun _ h => absurd h List.not_mem_nil⟩
  · exact ⟨by simp only [resetAll, Trk.reset, List.length_replicate], fun _ => calm_resetAll cause s, False.elim⟩

end Sys2Proof.Machine

namespace Sys2Proof.Tracks

open Sys2Proof.Machine

/-- Settles O59: each event keeps the part calm outside a run, the stages of a line because they do nothing without a line. -/
theorem stepKeepsQuiet : Obligations.StepKeepsQuiet := by
  intro s t hinv hquiet hstep
  obtain ⟨-, -, ⟨hlength, -⟩, -⟩ := hinv
  have hkept := calmOutside_keptBySteps.step ((quiet_iff hlength).mp hquiet) hstep
  exact (quiet_iff hkept.length).mpr hkept

/-- Settles O60: a power-on reset leaves the part as the steps of the invariants have it after any reset. -/
theorem resetInvariant : Obligations.ResetInvariant := by
  obtain ⟨-, -, ⟨hlength, -⟩, -⟩ := inv_reset
  exact ⟨inv_reset, (quiet_iff hlength).mpr ⟨hlength, fun _ => calm_resetAll .powerOn State.reset, False.elim⟩⟩

end Sys2Proof.Tracks
end

section
/-! PROOFS. A close is silent or reported (R119), and what the clip store writes for a continued track, and where (R132 to R135). -/

namespace Sys2Proof.Machine

/-! ## Closes (R119) -/

section
variable {s : State} {id : Nat} (hl : id < s.trk.slots.length) (t : Track)
include hl

theorem State.setTrack_track : s.setTrack id (s.track id) = s := by
  have : s.trk.slots.set id (s.track id) = s.trk.slots := by
    simp [State.track, Trk.slot, List.getD, hl]
  rw [State.setTrack, this]

theorem State.freeTrack_setTrack :
    (s.setTrack id t).freeTrack id =
      { s with
        trk := { s.trk with slots := s.trk.slots.set id Track.blank, freeList := s.trk.freeList ++ [id] }
        cls := { s.cls with pool := s.cls.pool ++ t.clip.blocks } } := by
  rw [State.freeTrack, State.track_setTrack_same s id t hl, State.setTrack]
  simp only [List.set_set]

theorem closeTrack_silent (cause : CloseCause) (h : t.silent s.trk.minArea = true) :
    closeTrack id t cause s =
      { s with
        trk := { s.trk with slots := s.trk.slots.set id Track.blank, freeList := s.trk.freeList ++ [id] }
        cls := { s.cls with pool := s.cls.pool ++ t.clip.blocks } } := by
  rw [closeTrack, if_pos h, State.freeTrack_setTrack hl]

end

/-- The part with the next close serial taken and the report's spot counted. -/
def State.serialTaken (s : State) (t : Track) : State :=
  let u := { s with trk := { s.trk with serial := nextSerial s.trk.serial } }
  if t.kind = .spot then countSpot t.lane t.patchNumber u else u

theorem State.serialTaken_frame (s : State) (t : Track) :
    ∃ lnc, s.serialTaken t = { s with lnc := lnc, trk := { s.trk with serial := nextSerial s.trk.serial } } := by
  simp only [State.serialTaken, countSpot]
  repeat' split
  all_goals exact ⟨_, rfl⟩

/-- The part with a close's report in the queue. -/
def State.withClose (s : State) (r : Report) (n : Notice) : State :=
  { s with rpq := s.rpq.enter (s.rpq.priorityOf r.kind) r (some n) }

theorem State.serialTaken_streak {t : Track} (s : State) (h : t.kind = .streak) :
    s.serialTaken t = { s with trk := { s.trk with serial := nextSerial s.trk.serial } } := if_neg (by rw [h]; decide)

/-- A spot of the lane's present patch counts there (R72). -/
theorem State.serialTaken_counted {t : Track} (s : State) (h : t.kind = .spot) (hp : (lane s t.lane).patchNumber = t.patchNumber) :
    s.serialTaken t =
      State.setLane { s with trk := { s.trk with serial := nextSerial s.trk.serial } } t.lane
        { lane s t.lane with
          patch := (lane s t.lane).patch.map fun p => { p with spots := satAdd Config.top16 p.spots 1 }
          ended := (lane s t.lane).ended.map fun e =>
            { e with patch := { e.patch with spots := satAdd Config.top16 e.patch.spots 1 } } } :=
  (if_pos h).trans (if_pos hp)

theorem State.serialTaken_uncounted {t : Track} (s : State) (h : t.kind = .spot)
    (hp : ¬(lane s t.lane).patchNumber = t.patchNumber) :
    s.serialTaken t = { s with trk := { s.trk with serial := nextSerial s.trk.serial } } :=
  (if_pos h).trans (if_neg hp)

section
variable {t : Track}

theorem closeReport_streak (h : t.kind = .streak) (id : Nat) (cause : CloseCause) (held : Bool) :
    closeReport id t cause held = .streakClose (streakCloseOf id t cause held) := by simp only [closeReport, h]

theorem closeReport_spot (h : t.kind = .spot) (id : Nat) (cause : CloseCause) (held : Bool) :
    closeReport id t cause held = .spot (spotReportOf id t cause held) := by simp only [closeReport, h]

theorem Trk.keeps_streak {k : Trk} (h : t.kind = .streak) : k.keeps t = k.keepStreak := by simp only [Trk.keeps, h]

theorem Trk.keeps_spot {k : Trk} (h : t.kind = .spot) : k.keeps t = k.keepSpot := by simp only [Trk.keeps, h]

end

/-- The report of a closing track has room. -/
def State.roomToClose (s : State) (t : Track) : Prop :=
  match t.kind with
  | .spot => s.room .spot
  | .streak => s.room .streakClose

section
variable {s : State} {id : Nat} {t : Track} (cause : CloseCause) (h : t.silent s.trk.minArea = false) (hroom : s.roomToClose t)
include h hroom

/-- With room for its report a close that is not silent settles the slot and enters the report. -/
theorem closeTrack_reported :
    closeTrack id t cause s =
      State.withClose (settleSlot id t cause (nextSerial s.trk.serial) (s.serialTaken t))
        (closeReport id t cause (s.trk.keeps t && decide (0 < t.clip.rows))) { id := id, serial := nextSerial s.trk.serial } := by
  have hrpq : (settleSlot id t cause (nextSerial s.trk.serial) (s.serialTaken t)).rpq = s.rpq := by
    obtain ⟨lnc, he⟩ := s.serialTaken_frame t
    rw [he, settleSlot]
    split <;> rfl
  have hkind (held : Bool) : s.room (closeReport id t cause held).kind := by
    cases hk : t.kind with
    | spot =>
      rw [closeReport_spot hk]
      simp only [State.roomToClose, hk] at hroom
      exact hroom
    | streak =>
      rw [closeReport_streak hk]
      simp only [State.roomToClose, hk] at hroom
      exact hroom
  have hpost := post_room (settleSlot id t cause (nextSerial s.trk.serial) (s.serialTaken t))
    (closeReport id t cause (s.trk.keeps t && decide (0 < t.clip.rows))) (some { id := id, serial := nextSerial s.trk.serial })
    (by rw [State.room, hrpq]; exact hkind _)
  rw [closeTrack, if_neg (by rw [h]; decide)]
  exact hpost

omit h hroom in
theorem keeps_serialTaken {b : Bool} (hk : s.trk.keeps t = b) : (s.serialTaken t).trk.keeps t = b := by
  obtain ⟨lnc, he⟩ := s.serialTaken_frame t
  rw [he]
  exact hk

theorem closeTrack_kept (hk : s.trk.keeps t = true) :
    closeTrack id t cause s =
      State.withClose ((s.serialTaken t).setTrack id (t.hold cause (nextSerial s.trk.serial)))
        (closeReport id t cause (decide (0 < t.clip.rows))) { id := id, serial := nextSerial s.trk.serial } := by
  rw [closeTrack_reported cause h hroom, settleSlot, if_pos (keeps_serialTaken hk), hk, Bool.true_and]

theorem closeTrack_freed (hl : id < s.trk.slots.length) (hk : s.trk.keeps t = false) :
    closeTrack id t cause s =
      State.withClose
        { s.serialTaken t with
          trk := { (s.serialTaken t).trk with
            slots := (s.serialTaken t).trk.slots.set id Track.blank, freeList := (s.serialTaken t).trk.freeList ++ [id] }
          cls := { (s.serialTaken t).cls with pool := (s.serialTaken t).cls.pool ++ t.clip.blocks } }
        (closeReport id t cause false) { id := id, serial := nextSerial s.trk.serial } := by
  have hlen : id < (s.serialTaken t).trk.slots.length := by
    obtain ⟨lnc, he⟩ := s.serialTaken_frame t
    rw [he]
    exact hl
  rw [closeTrack_reported cause h hroom, settleSlot, if_neg (by rw [keeps_serialTaken hk]; decide), hk, Bool.false_and,
    State.freeTrack_setTrack hlen]

end

/-! ## The words of a row (R132, R134) -/

/-- Offsets fewer than a block apart have different places. -/
theorem clipAddress_ne (blocks : List Nat) {i j : Nat} (h : i < j) (hj : j < i + 128) :
    clipAddress blocks i ≠ clipAddress blocks j := by
  simp only [clipAddress, Config.blockWords]
  omega

theorem get_clipWritten_other (blocks : List Nat) {row : List (Option Nat)} {offset a : Nat}
    {m : Sparse (Checked (Option Nat))} (hm : Sparse.wf clipDefault m = true)
    (ha : ∀ k < row.length, a ≠ clipAddress blocks (offset + k)) :
    Sparse.get clipDefault (clipWritten blocks offset row m) a = Sparse.get clipDefault m a := by
  induction row generalizing offset m with
  | nil => rfl
  | cons w ws ih =>
    have hfirst : a ≠ clipAddress blocks offset := ha 0 (Nat.succ_pos _)
    rw [clipWritten, ih (Sparse.wf_set _ _ _ _ hm) fun k hk => ?_, Sparse.get_set_other _ _ _ _ _ 0 hm hfirst]
    rw [Nat.add_assoc, Nat.add_comm 1]
    exact ha (k + 1) (Nat.succ_lt_succ hk)

/-- The words of a row of no more than a block follow one another from its offset on, with right checks. -/
theorem get_clipWritten_row (blocks : List Nat) {row : List (Option Nat)} {offset : Nat} {m : Sparse (Checked (Option Nat))}
    (hm : Sparse.wf clipDefault m = true) (hlen : row.length ≤ 128) {k : Nat} {v : Option Nat} (hk : row[k]? = some v) :
    Sparse.get clipDefault (clipWritten blocks offset row m) (clipAddress blocks (offset + k)) = { val := v, health := .good } := by
  induction row generalizing offset m k with
  | nil => simp at hk
  | cons w ws ih =>
    rw [List.length_cons] at hlen
    have hset := Sparse.wf_set clipDefault m (clipAddress blocks offset) { val := w, health := .good } hm
    cases k with
    | zero =>
      obtain rfl : w = v := by simpa using hk
      rw [clipWritten, Nat.add_zero, get_clipWritten_other blocks hset fun j hj => clipAddress_ne blocks (by omega) (by omega)]
      exact Sparse.get_set_same _ _ _ _ 0 hm
    | succ k =>
      rw [clipWritten, ← Nat.add_assoc, Nat.add_right_comm]
      exact ih hset (by omega) (by simpa using hk)

/-! ## The row stored (R133 to R135) -/

/-- A row on the line's record that is no longer than its limit of columns, behind its three head words. -/
theorem rowWords_length (line first width : Nat) (pixels : List Pixel) :
    (rowWords line first (min width rowLimit) pixels).length ≤ 128 := by
  simp only [rowWords, rowLimit, List.length_cons, List.length_map, List.length_range]
  omega

/-- The level of a column of a row. -/
theorem rowLevel_eq (pixels : List Pixel) (c : Nat) :
    rowLevel pixels c = match pixels[c]? with
      | some (.level v) => some v
      | some .saturated => some 1023
      | _ => none := by
  simp only [rowLevel, List.getD]
  cases pixels[c]? with
  | none => rfl
  | some p => cases p <;> rfl

theorem storeRow_nothing {sl : Slot} {s : State} {id : Nat}
    (h : (s.track id).joined = none ∨ (lane s (s.track id).lane).settings = none ∨ (s.track id).clip.valid = false ∨
      (s.track id).clip.rows = s.cls.maximum) : storeRow sl id s = s := by
  simp only [storeRow]
  split
  · next hj hc =>
    rw [hj, hc] at h
    exact if_pos (h.resolve_left nofun |>.resolve_left nofun)
  · rfl

/-- The flags of a clip half after a row of a wider span than its limit. -/
def ClipFlags.widened (f : ClipFlags) (wide : Span) : ClipFlags := { f with wide := f.wide || decide (rowLimit < wide.width) }

/-- The part as a row is placed: WIDE is set in the track's record when it is due. -/
def State.rowFormed (s : State) (id : Nat) (wide : Span) : State :=
  s.setTrack id { s.track id with clip := { (s.track id).clip with flags := (s.track id).clip.flags.widened wide } }

theorem storeRow_formed {sl : Slot} {s : State} {id : Nat} {span : Span} {c : LaneSettings} (hl : id < s.trk.slots.length)
    (hj : (s.track id).joined = some span) (hc : (lane s (s.track id).lane).settings = some c)
    (hv : (s.track id).clip.valid = true) (hr : (s.track id).clip.rows ≠ s.cls.maximum) :
    storeRow sl id s =
      placeRow id
        (rowWords sl.number (widenSpan s.cls.margin c span).lo (min (widenSpan s.cls.margin c span).width rowLimit) sl.pixels)
        (s.rowFormed id (widenSpan s.cls.margin c span)) := by
  have hvalid : ¬((s.track id).clip.valid = false ∨ (s.track id).clip.rows = s.cls.maximum) := by simp [hv, hr]
  by_cases hw : rowLimit < (widenSpan s.cls.margin c span).width
  · simp only [storeRow, hj, hc, if_neg hvalid, if_pos hw, State.rowFormed, ClipFlags.widened, decide_eq_true hw, Bool.or_true]
  · have hself : s.rowFormed id (widenSpan s.cls.margin c span) = s := by
      simp only [State.rowFormed, ClipFlags.widened, decide_eq_false hw, Bool.or_false]
      exact State.setTrack_track hl
    simp only [storeRow, hj, hc, if_neg hvalid, if_neg hw, hself]

/-- A clip takes a row of `n` words with the blocks, the words used in the last of them, and the pool left: the row fits the last block,
or the block at the pool's head joins the clip. -/
def Clip.takesRow (c : Clip) (pool : List Nat) (n : Nat) (blocks : List Nat) (words : Nat) (left : List Nat) : Prop :=
  (n ≤ c.room ∧ blocks = c.blocks ∧ words = c.wordsUsed + n ∧ left = pool) ∨
    ∃ b, c.room < n ∧ c.blocks.length < Config.clipBlockLimit ∧ pool = b :: left ∧ blocks = c.blocks ++ [b] ∧ words = n - c.room

section
variable {s : State} {id : Nat} {row : List (Option Nat)}

/-- A row that fits the last block, or takes the block at the pool's head. -/
theorem placeRow_writes {blocks pool : List Nat} {words : Nat}
    (h : (s.track id).clip.takesRow s.cls.pool row.length blocks words pool) :
    placeRow id row s =
      State.setTrack
        { s with cls := { s.cls with words := clipWritten blocks (s.track id).clip.used row s.cls.words, pool := pool } } id
        { s.track id with
          clip := { (s.track id).clip with
            first := true, blocks := blocks, wordsUsed := words, rows := (s.track id).clip.rows + 1 } } := by
  rcases h with ⟨hfits, rfl, rfl, rfl⟩ | ⟨b, hroom, hblocks, hpool, rfl, rfl⟩
  · simp only [placeRow, if_pos hfits, writeRow, Cls.writeWords_eq]
  · simp only [placeRow, if_neg (Nat.not_le.mpr hroom), if_neg (Nat.not_le.mpr hblocks), hpool, writeRow, Cls.writeWords_eq]
    rfl

theorem placeRow_truncated (hroom : (s.track id).clip.room < row.length)
    (hblocks : Config.clipBlockLimit ≤ (s.track id).clip.blocks.length) :
    placeRow id row s = endClip id { (s.track id).clip.flags with truncated := true }
      { s with cls := { s.cls with truncated := satAdd Config.top16 s.cls.truncated 1 } } := by
  simp only [placeRow, if_neg (Nat.not_le.mpr hroom), if_pos hblocks]

theorem placeRow_starved (hroom : (s.track id).clip.room < row.length)
    (hblocks : (s.track id).clip.blocks.length < Config.clipBlockLimit) (hpool : s.cls.pool = []) :
    placeRow id row s = endClip id { (s.track id).clip.flags with starved := true }
      { s with cls := { s.cls with starved := satAdd Config.top16 s.cls.starved 1 } } := by
  simp only [placeRow, if_neg (Nat.not_le.mpr hroom), if_neg (Nat.not_le.mpr hblocks), hpool]

end

section
variable {s : State} {id : Nat} (hl : id < s.trk.slots.length) (wide : Span)
include hl

theorem rowFormed_track : (s.rowFormed id wide).track id =
    { s.track id with clip := { (s.track id).clip with flags := (s.track id).clip.flags.widened wide } } :=
  State.track_setTrack_same s id _ hl

omit hl in
theorem setTrack_rowFormed (cls : Cls) (t : Track) :
    State.setTrack { s.rowFormed id wide with cls := cls } id t = State.setTrack { s with cls := cls } id t := by
  simp only [State.rowFormed, State.setTrack, List.set_set]

/-- What a row stored writes, and where. -/
theorem placeRow_formed {row : List (Option Nat)} {blocks pool : List Nat} {words : Nat}
    (h : (s.track id).clip.takesRow s.cls.pool row.length blocks words pool) :
    placeRow id row (s.rowFormed id wide) =
      State.setTrack
        { s with cls := { s.cls with words := clipWritten blocks (s.track id).clip.used row s.cls.words, pool := pool } } id
        { s.track id with
          clip := { (s.track id).clip with
            first := true, blocks := blocks, wordsUsed := words, rows := (s.track id).clip.rows + 1
            flags := (s.track id).clip.flags.widened wide } } := by
  have htrack := rowFormed_track hl wide
  rw [placeRow_writes (s := s.rowFormed id wide) (blocks := blocks) (pool := pool) (words := words)
    (by rw [htrack]; exact h), htrack]
  exact setTrack_rowFormed wide _ _

theorem endClip_formed (flags : ClipFlags) (cls : Cls) :
    endClip id flags { s.rowFormed id wide with cls := cls } =
      State.setTrack { s with cls := cls } id
        { s.track id with clip := { (s.track id).clip with valid := false, flags := flags } } := by
  have htrack : State.track { s.rowFormed id wide with cls := cls } id = _ := rowFormed_track hl wide
  rw [endClip, htrack]
  exact setTrack_rowFormed wide _ _

end

end Sys2Proof.Machine

namespace Sys2Proof.Tracks

open Sys2Proof.Machine

/-- Settles O52: the two halves of R119 and of R134, each case by its own lemma. -/
theorem trackCloses : Obligations.TrackCloses := by
  refine ⟨fun s id t cause hl => ⟨fun h => ?_, fun hk ht hroom => ?_, fun hk ha hroom => ?_⟩,
    fun s sl id hl hw => ⟨storeRow_nothing, ?_⟩⟩
  · refine closeTrack_silent hl t cause ?_
    rcases h with ⟨hk, ha⟩ | ⟨hk, ht⟩
    · simp only [Track.silent, hk, decide_eq_true ha]
    · simp only [Track.silent, hk, ht]
  · have hsilent : t.silent s.trk.minArea = false := by simp only [Track.silent, hk, ht]
    have hclose : s.roomToClose t := by simpa only [State.roomToClose, hk] using hroom
    refine ⟨fun hkeep => ?_, fun hkeep => ?_⟩
    · rw [closeTrack_kept cause hsilent hclose ((Trk.keeps_streak hk).trans hkeep), s.serialTaken_streak hk,
        closeReport_streak hk]
      rfl
    · rw [closeTrack_freed cause hsilent hclose hl ((Trk.keeps_streak hk).trans hkeep), s.serialTaken_streak hk,
        closeReport_streak hk]
      rfl
  · have hsilent : t.silent s.trk.minArea = false := by simp only [Track.silent, hk, decide_eq_false (Nat.not_lt.mpr ha)]
    have hclose : s.roomToClose t := by simpa only [State.roomToClose, hk] using hroom
    have hkept (hkeep : s.trk.keepSpot = true) := closeTrack_kept (id := id) cause hsilent hclose ((Trk.keeps_spot hk).trans hkeep)
    have hfreed (hkeep : s.trk.keepSpot = false) := closeTrack_freed cause hsilent hclose hl ((Trk.keeps_spot hk).trans hkeep)
    rw [closeReport_spot hk] at hkept hfreed
    by_cases hp : (lane s t.lane).patchNumber = t.patchNumber
    · rw [s.serialTaken_counted hk hp] at hkept hfreed
      simp only [if_pos hp]
      exact ⟨hkept, hfreed⟩
    · rw [s.serialTaken_uncounted hk hp] at hkept hfreed
      simp only [if_neg hp]
      exact ⟨hkept, hfreed⟩
  · intro span c hj hc hv hr lo hi width flags row room used written stopped
    have hrow : rowWords sl.number (widenSpan s.cls.margin c span).lo (min (widenSpan s.cls.margin c span).width rowLimit) sl.pixels =
        row := by
      simp only [rowWords, rowLevel_eq]
      rfl
    have hlen : row.length ≤ 128 := hrow ▸ rowWords_length _ _ _ _
    have hstore := storeRow_formed (sl := sl) hl hj hc hv hr
    have htrack := rowFormed_track hl (widenSpan s.cls.margin c span)
    rw [hrow] at hstore
    have hwritten {blocks pool : List Nat} {words : Nat}
        (he : placeRow id row (s.rowFormed id (widenSpan s.cls.margin c span)) =
          State.setTrack
            { s with cls := { s.cls with words := clipWritten blocks (s.track id).clip.used row s.cls.words, pool := pool } } id
            { s.track id with
              clip := { (s.track id).clip with
                first := true, blocks := blocks, wordsUsed := words, rows := (s.track id).clip.rows + 1, flags := flags } }) :
        written blocks words pool :=
      ⟨_, hstore.trans he, fun k v hk => get_clipWritten_row blocks hw hlen hk, fun a ha => get_clipWritten_other blocks hw ha⟩
    refine ⟨fun hfits => ?_, fun hroom hblocks => ?_, fun hroom hblocks hpool => ?_, fun b rest hroom hblocks hpool => ?_⟩
    · exact hwritten (placeRow_formed hl _ (.inl ⟨hfits, rfl, rfl, rfl⟩))
    · rw [hstore, placeRow_truncated (by rw [htrack]; exact hroom) (by rw [htrack]; exact hblocks), htrack]
      exact endClip_formed hl _ _ _
    · rw [hstore, placeRow_starved (s := s.rowFormed id (widenSpan s.cls.margin c span)) (by rw [htrack]; exact hroom)
        (by rw [htrack]; exact hblocks) hpool, htrack]
      exact endClip_formed hl _ _ _
    · exact hwritten (placeRow_formed hl _ (.inr ⟨b, hroom, hblocks, hpool, rfl, rfl⟩))

end Sys2Proof.Tracks
end

section
/-! PROOFS. What READ_TRACK, RELEASE_TRACK and LIST_TRACKS make of the table, and of the wrong words they meet (R122, R124 to R126). -/

namespace Sys2Proof.Machine

/-! ## A record with wrong words (R126) -/

theorem State.withOccurrence_cls (s : State) (src : Source) (d l : Option Nat) : (s.withOccurrence src d l).cls = s.cls := by
  obtain ⟨_, _, h, -⟩ := s.withOccurrence_eq src d l
  rw [h]

/-- A track with wrong words has a place in the table. -/
theorem State.lt_of_wrongWords {s : State} {id : Nat} (h : (s.track id).wrongWords ≠ []) : id < s.trk.slots.length := by
  by_contra hge
  exact h (by rw [State.track_of_le (Nat.le_of_not_lt hge)]; rfl)

/-- The part with the words of a record put right and MEMORY_CORRECTED taken. -/
def State.mended (s : State) (id : Nat) : State :=
  State.withOccurrence (s.setTrack id { s.track id with wrongWords := [] }) .memoryCorrected none none

section
variable {s : State} {id : Nat}

theorem mended_track (hl : id < s.trk.slots.length) (j : Nat) :
    (s.mended id).track j = if j = id then { s.track id with wrongWords := [] } else s.track j := by
  rw [State.mended, State.track, State.withOccurrence_trk]
  change (s.setTrack id _).track j = _
  rw [State.track_setTrack]
  exact if_congr (and_iff_left hl) rfl rfl

theorem mended_track_state (hl : id < s.trk.slots.length) (j : Nat) : ((s.mended id).track j).state = (s.track j).state := by
  rw [mended_track hl]
  split
  · next hj => rw [hj]
  · rfl

theorem mended_freeList : (s.mended id).trk.freeList = s.trk.freeList := by rw [State.mended, State.withOccurrence_trk]; rfl

theorem mended_state : (s.mended id).ict.state = s.ict.state := by rw [State.mended, State.withOccurrence_state]; rfl

theorem nothingDue_mended (h : s.nothingDue) : (s.mended id).nothingDue :=
  State.nothingDue_withOccurrence (s := s.setTrack id { s.track id with wrongWords := [] })
    (State.nothingDue_congr h rfl rfl rfl rfl) _ _ _

theorem mended_lnk : (s.mended id).lnk = s.lnk := by rw [State.mended, State.withOccurrence_lnk]; rfl

/-- The track of a mended record freed. -/
theorem freeTrack_mended (hl : id < s.trk.slots.length) :
    (s.mended id).freeTrack id =
      { s.mended id with
        trk := { s.trk with slots := s.trk.slots.set id Track.blank, freeList := s.trk.freeList ++ [id] }
        cls := { s.cls with pool := s.cls.pool ++ (s.track id).clip.blocks } } := by
  have htrk : (s.mended id).trk = { s.trk with slots := s.trk.slots.set id { s.track id with wrongWords := [] } } := by
    rw [State.mended, State.withOccurrence_trk]
    rfl
  have hcls : (s.mended id).cls = s.cls := by
    rw [State.mended, State.withOccurrence_cls]
    rfl
  have htrack := mended_track hl id
  rw [if_pos rfl] at htrack
  rw [State.freeTrack, htrack, htrk, hcls]
  simp only [List.set_set]

theorem readRecord_single (hw : (s.track id).wrongWords = [.single]) (ht : s.takes .memoryCorrected) :
    readRecord id s = s.mended id := by
  have hl := State.lt_of_wrongWords (s := s) (id := id) (by rw [hw]; decide)
  have hoccur : occur .memoryCorrected none none (s.setTrack id { s.track id with wrongWords := [] }) = s.mended id :=
    occur_of_takes _ _ _ _ ht
  have hright : ((s.mended id).track id).wrongWords = [] := by rw [mended_track hl, if_pos rfl]
  simp only [readRecord, readRecordWith, hw]
  change (if ((occur .memoryCorrected none none (s.setTrack id { s.track id with wrongWords := [] })).track id).wrongWords.isEmpty
    then _ else _) = _
  rw [hoccur, hright]
  exact hoccur

theorem readRecord_double {rest : List Health} (hw : (s.track id).wrongWords = .double :: rest) : readRecord id s = memoryFatal s := by
  have hl := State.lt_of_wrongWords (s := s) (id := id) (by rw [hw]; exact List.cons_ne_nil _ _)
  have hsame : s.setTrack id { s.track id with wrongWords := .double :: rest } = s := by
    rw [← hw]
    exact State.setTrack_track hl
  simp only [readRecord, readRecordWith, hw]
  change (if ((s.setTrack id { s.track id with wrongWords := .double :: rest }).track id).wrongWords.isEmpty then _
    else memoryFatal (s.setTrack id { s.track id with wrongWords := .double :: rest })) = _
  rw [hsame, hw]
  rfl

/-! ## READ_TRACK and RELEASE_TRACK (R122, R124) -/

theorem handleReadTrack_badValue (tag : Byte) (h : 63 < id) :
    handleReadTrack tag [id] s = s.withReply tag (.refused 0x38 .badValue 0) := if_pos h

theorem handleReleaseTrack_badValue (tag : Byte) (h : 63 < id) :
    handleReleaseTrack tag [id] s = s.withReply tag (.refused 0x3A .badValue 0) := if_pos h

section
variable {u : State} (tag : Byte) (hid : id ≤ 63) (hu : readRecord id s = u)
include hid hu

/-- An uncorrectable word refuses both. -/
theorem tracks_faulted (hf : u.ict.state = .faulted) :
    handleReadTrack tag [id] s = u.withReply tag (.refused 0x38 .faulted 0) ∧
      handleReleaseTrack tag [id] s = u.withReply tag (.refused 0x3A .faulted 0) := by
  simp only [handleReadTrack, handleReleaseTrack, List.getD_cons_zero, if_neg (Nat.not_lt.mpr hid), hu, if_pos hf]
  exact ⟨rfl, rfl⟩

variable (hf : u.ict.state ≠ .faulted)
include hf

theorem handleReadTrack_answers :
    handleReadTrack tag [id] s = u.withReply tag (.done (.readTrack id (u.track id))) := by
  simp only [handleReadTrack, List.getD_cons_zero, if_neg (Nat.not_lt.mpr hid), hu, if_neg hf]
  rfl

theorem handleReleaseTrack_notHeld (hh : (u.track id).state ≠ .held) :
    handleReleaseTrack tag [id] s = u.withReply tag (.refused 0x3A .notHeld 0) := by
  simp only [handleReleaseTrack, List.getD_cons_zero, if_neg (Nat.not_lt.mpr hid), hu, if_neg hf, if_neg hh]
  rfl

theorem handleReleaseTrack_frees (hh : (u.track id).state = .held) :
    handleReleaseTrack tag [id] s =
      (u.freeTrack id).withReply tag (.done (.releaseTrack id (u.trk.freeList.length + 1))) := by
  simp only [handleReleaseTrack, List.getD_cons_zero, if_neg (Nat.not_lt.mpr hid), hu, if_neg hf, if_pos hh, State.freeTrack,
    List.length_append, List.length_singleton]
  rfl

end

/-! ## LIST_TRACKS (R125) -/

theorem readAny_right (h : (s.track id).wrongWords = []) : readAny s id = s := by
  simp only [readAny, State.unlessFaulted, readRecord_right h, ite_self]

/-- A list of ids with one wrong record is read as that record is. -/
theorem readAny_foldl {ids : List Nat} {id : Nat} {u : State} (hn : ids.Nodup) (hid : id ∈ ids)
    (hs : ∀ i ∈ ids, i ≠ id → (s.track i).wrongWords = []) (hu : readAny s id = u)
    (hr : ∀ i ∈ ids, (u.track i).wrongWords = []) : ids.foldl readAny s = u := by
  induction ids with
  | nil => cases hid
  | cons i ids ih =>
    obtain ⟨hi, hn⟩ := List.nodup_cons.mp hn
    rw [List.foldl_cons]
    rcases List.mem_cons.mp hid with rfl | hid
    · rw [hu]
      exact foldl_unchanged fun j hj => readAny_right (hr j (List.mem_cons_of_mem _ hj))
    · rw [readAny_right (hs i List.mem_cons_self fun he => hi (he ▸ hid))]
      exact ih hn hid (fun j hj => hs j (List.mem_cons_of_mem _ hj)) fun j hj => hr j (List.mem_cons_of_mem _ hj)

theorem handleListTracks_answers {u : State} (tag : Byte) (hu : (List.range 64).foldl readAny s = u)
    (hf : u.ict.state ≠ .faulted) :
    handleListTracks tag s = u.withReply tag (.done (.listTracks u.trk.freeList.length u.trk.listed)) := by
  simp only [handleListTracks, hu, if_neg hf]
  rfl

theorem listed_congr {k m : Trk} (h : ∀ id < 64, (m.slot id).state = (k.slot id).state) : m.listed = k.listed := by
  have hfilter : (List.range 64).filter (fun id => (m.slot id).state ≠ .free) =
      (List.range 64).filter (fun id => (k.slot id).state ≠ .free) :=
    List.filter_congr fun id hid => by rw [h id (List.mem_range.mp hid)]
  rw [Trk.listed, Trk.listed, hfilter]
  exact List.map_congr_left fun id hid => by rw [h id (List.mem_range.mp (List.mem_of_mem_filter hid))]

end

/-- The three requests are taken in every state but FAULTED (Table LXVII). -/
theorem refusedByState_tracks {st : Inspection} (h : st ≠ .faulted) :
    refusedByState .readTrack st = none ∧ refusedByState .releaseTrack st = none ∧ refusedByState .listTracks st = none := by
  cases st with
  | faulted => exact absurd rfl h
  | _ => exact ⟨rfl, rfl, rfl⟩

section
variable {s u : State} (h : s.listening) (hs : s.ict.state ≠ .faulted) (tag : Byte) (hr : u.rests)
include h hs hr

theorem exec_readTrack {id : Nat} (hid : id < 256) (hu : handleReadTrack tag [id] s = u) :
    exec (rowOf .readTrack tag [id]) s = .next u.sends := by
  have hf : fitsWidths Request.readTrack.fieldWidths [id] := ⟨rfl, by simp [Request.fieldWidths, hid]⟩
  refine exec_rowOf_handled h (refusedByState_tracks hs).1 (by decide) tag hf ?_ hr
  simp only [handle, readFields_fieldBytes hf]
  exact hu

theorem exec_releaseTrack {id : Nat} (hid : id < 256) (hu : handleReleaseTrack tag [id] s = u) :
    exec (rowOf .releaseTrack tag [id]) s = .next u.sends := by
  have hf : fitsWidths Request.releaseTrack.fieldWidths [id] := ⟨rfl, by simp [Request.fieldWidths, hid]⟩
  refine exec_rowOf_handled h (refusedByState_tracks hs).2.1 (by decide) tag hf ?_ hr
  simp only [handle, readFields_fieldBytes hf]
  exact hu

theorem exec_listTracks (hu : handleListTracks tag s = u) : exec (.listTracks tag []) s = .next u.sends :=
  exec_row_handled h .listTracks tag (Nat.zero_le _) (refusedByState_tracks hs).2.2 rfl hu hr

end

end Sys2Proof.Machine

namespace Sys2Proof.Tracks

open Sys2Proof.Machine

/-- Settles O53: the record's words decide what the request finds, and its slot's state what a release does. -/
theorem tracksRead : Obligations.TracksRead := by
  intro s tag id h hs hid t
  have ⟨⟨_, hnothing, _, hprogress, _⟩, _⟩ := h
  refine ⟨fun hi => ?_, fun hi hw => ?_, fun hi hw ht => ?_, fun rest hi hw => ?_, fun hall => ?_⟩
  · exact ⟨exec_readTrack h hs tag (h.rests_withReply _ _) hid (handleReadTrack_badValue tag hi),
      exec_releaseTrack h hs tag (h.rests_withReply _ _) hid (handleReleaseTrack_badValue tag hi)⟩
  · have hu := readRecord_right hw
    refine ⟨?_, fun hh => ?_, fun hh => ?_⟩
    · exact exec_readTrack h hs tag (h.rests_withReply _ _) hid (handleReadTrack_answers tag hi hu hs)
    · exact exec_releaseTrack h hs tag (h.rests_withReply _ _) hid (handleReleaseTrack_notHeld tag hi hu hs hh)
    · refine exec_releaseTrack h hs tag ?_ hid (handleReleaseTrack_frees tag hi hu hs hh)
      exact h.rests_answered (t := s.freeTrack id) rfl (State.nothingDue_congr hnothing rfl rfl rfl rfl) _ _
  · intro n u
    have hl := State.lt_of_wrongWords (s := s) (id := id) (by rw [hw]; decide)
    have hu := readRecord_single hw ht
    have hus : (s.mended id).ict.state ≠ .faulted := by rw [mended_state]; exact hs
    have hsame : (s.mended id).track id = n := by rw [mended_track hl, if_pos rfl]
    have hdue := nothingDue_mended (id := id) hnothing
    have hrests (b : ReplyBody) := h.rests_answered mended_lnk hdue tag b
    refine ⟨?_, fun hh => ?_, fun hh => ?_, fun hothers => ?_⟩
    · have hread := exec_readTrack h hs tag (hrests _) hid (handleReadTrack_answers tag hi hu hus)
      rwa [hsame] at hread
    · exact exec_releaseTrack h hs tag (hrests _) hid
        (handleReleaseTrack_notHeld tag hi hu hus (by rw [hsame]; exact hh))
    · have hfree := exec_releaseTrack h hs tag
        (h.rests_answered (t := (s.mended id).freeTrack id) mended_lnk (State.nothingDue_congr hdue rfl rfl rfl rfl) _ _) hid
        (handleReleaseTrack_frees tag hi hu hus (by rw [hsame]; exact hh))
      rwa [freeTrack_mended hl, mended_freeList] at hfree
    · have hread : readAny s id = s.mended id := by simp only [readAny, State.unlessFaulted, if_neg hs, hu]
      have hfold := readAny_foldl List.nodup_range (List.mem_range.mpr (Nat.lt_succ_of_le hi))
        (fun i hi' => hothers i (List.mem_range.mp hi')) hread fun i hi' => by
          rw [mended_track hl]
          split
          · rfl
          · next hne => exact hothers i (List.mem_range.mp hi') hne
      have hlist := exec_listTracks h hs tag (hrests _) (handleListTracks_answers tag hfold hus)
      rwa [mended_freeList, listed_congr fun i _ => mended_track_state hl i] at hlist
  · have hu := readRecord_double hw
    have hrests (b : ReplyBody) := h.rests_answered ((lnk_stable hprogress).memoryFatal s rfl)
      (State.nothingDue_of_ended (.inr (memoryFatal_shut s).1)) tag b
    obtain ⟨hread, hrelease⟩ := tracks_faulted tag hi hu (memoryFatal_shut s).1
    exact ⟨exec_readTrack h hs tag (hrests _) hid hread, exec_releaseTrack h hs tag (hrests _) hid hrelease⟩
  · have hfold : (List.range 64).foldl readAny s = s :=
      foldl_unchanged fun i hi => readAny_right (hall i (List.mem_range.mp hi))
    exact exec_listTracks h hs tag (h.rests_withReply _ _) (handleListTracks_answers tag hfold hs)

end Sys2Proof.Tracks
end

section
/-! PROOFS. SET_CLIPS (R130, R131): the checks of its fields and the settings it puts in force. -/

namespace Sys2Proof.Machine

/-- The ranges of the four fields, written out. -/
theorem setClipsChecks_eq (f : List Nat) : setClipsChecks f =
    [decide (f.getD 0 0 ≤ 1), decide (f.getD 1 0 ≤ 1), decide (f.getD 2 0 ≤ 8),
      decide (1 ≤ f.getD 3 0 ∧ f.getD 3 0 ≤ 1024)] := by
  simp only [setClipsChecks, isCode2, inRange, Nat.zero_le, true_and]

theorem handle_setClips {s : State} {f : List Nat} (tag : Byte) (hf : fitsWidths Request.setClips.fieldWidths f) :
    handle .setClips tag (fieldBytes Request.setClips.fieldWidths f) s = handleSetClips tag f s := by
  simp only [handle, readFields_fieldBytes hf]

theorem handleSetClips_badValue (s : State) (tag : Byte) {f : List Nat} {i : Nat} (hi : firstBad (setClipsChecks f) i) :
    handleSetClips tag f s = s.badValue tag .setClips i := by
  simp only [handleSetClips, firstFailing_of_firstBad hi]

/-- The fields that carry two flags, a margin and a maximum of rows (Table LV). -/
def clipFields (keepSpot keepStreak : Bool) (margin most : Nat) : List Nat :=
  [if keepSpot then 1 else 0, if keepStreak then 1 else 0, margin, most]

section
variable (keepSpot keepStreak : Bool) {margin most : Nat} (hm : margin ≤ 8) (h1 : 1 ≤ most) (h2 : most ≤ 1024)
include hm h1 h2

/-- Both flags are codes of a two-valued field, so fields with margin and maximum in range pass their checks and fit their widths. -/
theorem clipFields_ok : fitsWidths Request.setClips.fieldWidths (clipFields keepSpot keepStreak margin most) ∧
    allOk (setClipsChecks (clipFields keepSpot keepStreak margin most)) := by
  have flag (b : Bool) : (if b then 1 else 0) ≤ 1 := by cases b <;> decide
  have hspot := flag keepSpot
  have hstreak := flag keepStreak
  refine ⟨?_, ?_⟩
  · simp only [clipFields, Request.fieldWidths, fitsWidths_cons_iff, fitsWidths_nil, and_true]
    omega
  · simp [allOk, setClipsChecks_eq, clipFields, hspot, hstreak, hm, h1, h2]

theorem handleSetClips_taken (s : State) (tag : Byte) :
    handleSetClips tag (clipFields keepSpot keepStreak margin most) s =
      State.withReply
        { s with
          trk := { s.trk with keepSpot := keepSpot, keepStreak := keepStreak }
          cls := { s.cls with margin := margin, maximum := most } }
        tag (.done (.setClips keepSpot keepStreak margin most)) := by
  have flag (b : Bool) : decide ((if b then 1 else 0) = 1) = b := by cases b <;> rfl
  simp only [handleSetClips, firstFailing_of_allOk (clipFields_ok keepSpot keepStreak hm h1 h2).2]
  simp only [clipFields, List.getD_cons_zero, List.getD_cons_succ, flag]
  rfl

end

end Sys2Proof.Machine

namespace Sys2Proof.Clips

open Sys2Proof.Machine

/-- Settles O54: refused as every request of STOPPED alone is; with every field in range the four settings are taken together. -/
theorem setClips : Obligations.SetClips := by
  intro s tag h
  refine ⟨refusedAsStated_of_badValue h (by decide) _ tag fun f i hf hi => ?_,
    fun keepSpot keepStreak margin most hs hm h1 h2 => ?_⟩
  · exact (handle_setClips tag hf).trans (handleSetClips_badValue s tag (by rwa [setClipsChecks_eq]))
  · have hf := (clipFields_ok keepSpot keepStreak hm h1 h2).1
    exact exec_rowOf_loaded h hs (by decide) hf
      ((handle_setClips tag hf).trans (handleSetClips_taken keepSpot keepStreak hm h1 h2 s tag)) rfl rfl

end Sys2Proof.Clips
end

section
/-! PROOFS. READ_CLIP: the words it meets, the rows it reads from them, and the answer (R136 to R139). -/

namespace Sys2Proof.Machine

/-! ## One word read (R136) -/

/-- What a read gives of a stored word: its value, or none when it is uncorrectable. -/
def Checked.value? {α : Type} (w : Checked α) : Option α := if w.health = .double then none else some w.val

section
variable {α : Type} {w : Checked α}

theorem Checked.value?_of_double (h : w.health = .double) : w.value? = none := if_pos h

theorem Checked.value?_of_ne_double (h : w.health ≠ .double) : w.value? = some w.val := if_neg h

theorem Checked.value?_isNone (w : Checked α) : w.value?.isNone = decide (w.health = .double) := by
  by_cases h : w.health = .double
  · rw [value?_of_double h, decide_eq_true h]
    rfl
  · rw [value?_of_ne_double h, decide_eq_false h]
    rfl

theorem Checked.value?_bind_id (w : Checked (Option α)) :
    w.value?.bind id = if w.health = .double then none else w.val := by
  by_cases h : w.health = .double
  · rw [value?_of_double h, if_pos h]
    rfl
  · rw [value?_of_ne_double h, if_neg h]
    rfl

end

/-- The word stored at an offset of a clip. -/
def State.clipWord (s : State) (blocks : List Nat) (offset : Nat) : Checked (Option Nat) :=
  Sparse.get clipDefault s.cls.words (clipAddress blocks offset)

/-- The words of CLS once a word with one wrong bit has been written back right. -/
def State.clipWordsMended (s : State) (blocks : List Nat) (offset : Nat) : Sparse (Checked (Option Nat)) :=
  Sparse.set clipDefault s.cls.words (clipAddress blocks offset) { val := (s.clipWord blocks offset).val, health := .good }

/-- The part once a word with one wrong bit has been read: written back right, with its MEMORY_CORRECTED. -/
def State.clipMended (s : State) (blocks : List Nat) (offset : Nat) : State :=
  State.withOccurrence { s with cls := { s.cls with words := s.clipWordsMended blocks offset } } .memoryCorrected none none

section
variable {s : State} {blocks : List Nat} {offset : Nat}

/-- A read gives the word's value, and writes the word back when one bit was wrong. -/
theorem readClipWord_eq : readClipWord blocks offset s =
    (if (s.clipWord blocks offset).health = .single then
        occur .memoryCorrected none none { s with cls := { s.cls with words := s.clipWordsMended blocks offset } }
      else s, (s.clipWord blocks offset).value?) := by
  simp only [readClipWord, State.clipWordsMended, State.clipWord, Checked.value?]
  split
  all_goals next h =>
    simp only [h]
    rfl

theorem readClipWord_unmended (h : (s.clipWord blocks offset).health ≠ .single) :
    readClipWord blocks offset s = (s, (s.clipWord blocks offset).value?) := by
  rw [readClipWord_eq, if_neg h]

theorem readClipWord_single (h : (s.clipWord blocks offset).health = .single) (ht : s.takes .memoryCorrected) :
    readClipWord blocks offset s = (s.clipMended blocks offset, (s.clipWord blocks offset).value?) := by
  have hoccur : occur .memoryCorrected none none { s with cls := { s.cls with words := s.clipWordsMended blocks offset } } =
      s.clipMended blocks offset := occur_of_takes _ _ _ _ ht
  rw [readClipWord_eq, if_pos h, hoccur]

/-- Written back, the word has its value with a right check, and the word at any other address is as it was. -/
theorem get_clipWordsMended (hw : Sparse.wf clipDefault s.cls.words = true) (a : Nat) :
    Sparse.get clipDefault (s.clipWordsMended blocks offset) a =
      if a = clipAddress blocks offset then { val := (s.clipWord blocks offset).val, health := .good }
      else Sparse.get clipDefault s.cls.words a := by
  split
  · next h =>
    rw [h]
    exact Sparse.get_set_same _ _ _ _ 0 hw
  · next h => exact Sparse.get_set_other _ _ _ _ _ 0 hw h

theorem clipMended_cls : (s.clipMended blocks offset).cls = { s.cls with words := s.clipWordsMended blocks offset } :=
  State.withOccurrence_cls ..

end

/-! ## Many words read (R136) -/

/-- The reads of a clip in the part `s` give the values of its words, and one that meets a word of `hit` leaves the part `t`, from which
every read gives the same values and changes nothing. -/
structure ClipReads (blocks : List Nat) (word : Nat → Checked (Option Nat)) (hit : Nat → Bool) (s t : State) : Prop where
  before : ∀ o, readClipWord blocks o s = (cond (hit o) t s, (word o).value?)
  after : ∀ o, readClipWord blocks o t = (t, (word o).value?)

/-- With no word of one wrong bit in the clip the part stays as it is. -/
theorem clipReads_right {s : State} {blocks : List Nat} (h : ∀ o, (s.clipWord blocks o).health ≠ .single) :
    ClipReads blocks (s.clipWord blocks) (fun _ => false) s s :=
  ⟨fun o => readClipWord_unmended (h o), fun o => readClipWord_unmended (h o)⟩

/-- The words of a clip that stand where the word at an offset does. -/
def sameAddress (blocks : List Nat) (k o : Nat) : Bool := decide (clipAddress blocks k = clipAddress blocks o)

/-- With one such word the part is mended at the first read that meets it. -/
theorem clipReads_single {s : State} {blocks : List Nat} {k : Nat} (hw : Sparse.wf clipDefault s.cls.words = true)
    (hk : (s.clipWord blocks k).health = .single)
    (hothers : ∀ o, clipAddress blocks o ≠ clipAddress blocks k → (s.clipWord blocks o).health ≠ .single)
    (ht : s.takes .memoryCorrected) :
    ClipReads blocks (s.clipWord blocks) (sameAddress blocks k) s (s.clipMended blocks k) := by
  have hsame {o : Nat} (ho : clipAddress blocks o = clipAddress blocks k) : s.clipWord blocks o = s.clipWord blocks k := by
    rw [State.clipWord, State.clipWord, ho]
  have hword (o : Nat) : (s.clipMended blocks k).clipWord blocks o =
      if clipAddress blocks o = clipAddress blocks k then { val := (s.clipWord blocks k).val, health := .good }
      else s.clipWord blocks o := by
    rw [State.clipWord, clipMended_cls]
    exact get_clipWordsMended hw _
  refine ⟨fun o => ?_, fun o => ?_⟩
  · by_cases ho : clipAddress blocks o = clipAddress blocks k
    · have hmended : s.clipMended blocks o = s.clipMended blocks k := by
        simp only [State.clipMended, State.clipWordsMended, hsame ho, ho]
      rw [readClipWord_single (by rw [hsame ho]; exact hk) ht, hmended, sameAddress, decide_eq_true ho.symm]
      rfl
    · rw [readClipWord_unmended (hothers o ho), sameAddress, decide_eq_false (Ne.symm ho)]
      rfl
  · by_cases ho : clipAddress blocks o = clipAddress blocks k
    · rw [readClipWord_unmended (by rw [hword, if_pos ho]; exact nofun), hword, if_pos ho, hsame ho,
        Checked.value?_of_ne_double Health.noConfusion, Checked.value?_of_ne_double (by rw [hk]; decide)]
    · rw [readClipWord_unmended (by rw [hword, if_neg ho]; exact hothers o ho), hword, if_neg ho]

/-! ## The rows of a clip (R136, R139) -/

/-- The words a row takes up as far as they can be told: its three head words alone when its width is lost. -/
def rowExtent (word : Nat → Checked (Option Nat)) (o : Nat) : Nat :=
  if (word (o + 2)).health = .double then 3 else 3 + (word (o + 2)).val.getD 0

/-- The place of the row after the one at an offset; none when the width word is uncorrectable (R136). -/
def rowAfter (word : Nat → Checked (Option Nat)) (o : Nat) : Option Nat :=
  if (word (o + 2)).health = .double then none else some (o + 3 + (word (o + 2)).val.getD 0)

/-- A row without a place. -/
def lostRow (index : Nat) : ClipRow :=
  { index := index, damaged := true, line := none, first := none, width := none, levels := [] }

/-- The row of an index as the words from an offset on hold it. -/
def storedRow (word : Nat → Checked (Option Nat)) (index o : Nat) : ClipRow :=
  let read (offset : Nat) : Option Nat := if (word offset).health = .double then none else (word offset).val
  if (word (o + 2)).health = .double then
    { index := index, damaged := true, line := read o, first := read (o + 1), width := none, levels := [] }
  else
    let n := (word (o + 2)).val.getD 0
    let damaged := (List.range (3 + n)).any (fun i => decide ((word (o + i)).health = .double))
    { index := index, damaged := damaged, line := read o, first := read (o + 1), width := some n
      levels := if damaged then [] else (List.range n).map (fun i => (word (o + 3 + i)).val) }

/-- The row of an index, whose place is known or lost. -/
def rowAt (word : Nat → Checked (Option Nat)) (place : Nat → Option Nat) (index : Nat) : ClipRow :=
  match place index with
  | none => lostRow index
  | some o => storedRow word index o

/-- The width word of a row is among the words of `hit`. -/
def widthHit (hit : Nat → Bool) (place : Nat → Option Nat) (k : Nat) : Bool := (place k).any fun o => hit (o + 2)

/-- A word of a row is among the words of `hit`. -/
def rowHit (hit : Nat → Bool) (word : Nat → Checked (Option Nat)) (place : Nat → Option Nat) (k : Nat) : Bool :=
  (place k).any fun o => (List.range (rowExtent word o)).any fun i => hit (o + i)

/-- A row is looked at by its three head words and then its levels. -/
theorem any_range_three_add (n : Nat) (p : Nat → Bool) :
    (List.range (3 + n)).any p = (p 0 || p 1 || p 2 || (List.range n).any fun i => p (3 + i)) := by
  rw [List.range_add, List.any_append, List.any_map]
  simp [List.range_succ, Function.comp_def, Bool.or_assoc]

/-- Levels are returned of a row without an uncorrectable word alone, so each is the word's value. -/
theorem levels_of_undamaged {n : Nat} {damaged : Bool} (f : Nat → Checked (Option Nat))
    (h : damaged = false → ∀ i < n, (f i).health ≠ .double) :
    (if damaged = true then [] else (List.range n).map fun i => if (f i).health = .double then none else (f i).val) =
      if damaged = true then [] else (List.range n).map fun i => (f i).val := by
  cases damaged with
  | true => rfl
  | false => exact List.map_congr_left fun i hi => if_neg (h rfl i (List.mem_range.mp hi))

section
variable {blocks : List Nat} {word : Nat → Checked (Option Nat)} {hit : Nat → Bool} {s t : State}
  (hr : ClipReads blocks word hit s t) (m : Bool)
include hr

theorem ClipReads.readWord (o : Nat) :
    readClipWord blocks o (cond m t s) = (cond (m || hit o) t s, (word o).value?) := by
  cases m with
  | true => exact hr.after o
  | false => exact hr.before o

theorem ClipReads.readWords (n o : Nat) :
    readClipWords blocks n o (cond m t s) =
      (cond (m || (List.range n).any fun i => hit (o + i)) t s, (List.range n).map fun i => (word (o + i)).value?) := by
  induction n generalizing m o with
  | zero => simp [readClipWords]
  | succ n ih =>
    simp only [readClipWords, hr.readWord, ih, List.range_succ_eq_map, List.any_cons, List.any_map, List.map_cons, List.map_map,
      Function.comp_def, Nat.add_zero, Nat.succ_eq_add_one, Nat.add_assoc, Nat.add_comm 1, Bool.or_assoc]

/-- A row at a known place is read word by word, its levels only when its width is known. -/
theorem ClipReads.readStored (d : Bool) (index o : Nat) (rows : List ClipRow) :
    ClipWalk.read blocks { state := cond m t s, place := some o, damaged := d, rows := rows } index =
      { state := cond (m || (List.range (rowExtent word o)).any fun i => hit (o + i)) t s
        place := rowAfter word o
        damaged := d || (storedRow word index o).damaged
        rows := storedRow word index o :: rows } := by
  by_cases hd : (word (o + 2)).health = .double
  · simp only [ClipWalk.read, hr.readWord, Checked.value?_of_double hd, Checked.value?_bind_id, rowExtent, rowAfter, storedRow, if_pos hd,
      any_range_three_add 0, Bool.or_true, List.range_zero, List.any_nil, Bool.or_false, Bool.or_assoc, Nat.add_zero]
  · simp only [ClipWalk.read, hr.readWord, hr.readWords, Checked.value?_of_ne_double hd, Checked.value?_bind_id,
      Checked.value?_isNone, rowExtent, rowAfter, storedRow, if_neg hd, any_range_three_add,
      List.any_map, List.map_map, Function.comp_def, Bool.or_assoc, Bool.false_or, Nat.add_assoc, Nat.add_zero,
      decide_eq_false hd]
    rw [levels_of_undamaged fun i => word (o + (3 + i))]
    simp only [Bool.or_eq_false_iff, List.any_eq_false, List.mem_range, decide_eq_true_eq]
    exact fun hgood => hgood.2.2

variable {place : Nat → Option Nat} (hnext : ∀ k, place (k + 1) = (place k).bind (rowAfter word))
include hnext

/-- Passing a row reads its width word; a place is lost with the damage noted. -/
theorem ClipReads.skip (k : Nat) (rows : List ClipRow) :
    ClipWalk.skip blocks { state := cond m t s, place := place k, damaged := (place k).isNone, rows := rows } =
      { state := cond (m || widthHit hit place k) t s, place := place (k + 1), damaged := (place (k + 1)).isNone, rows := rows } := by
  rw [hnext]
  cases hk : place k with
  | none => simp [ClipWalk.skip, widthHit, hk]
  | some o =>
    simp only [ClipWalk.skip, hr.readWord, widthHit, hk, Option.bind_some, Option.any_some, Option.isNone_some, rowAfter]
    by_cases hd : (word (o + 2)).health = .double
    · simp only [Checked.value?_of_double hd, if_pos hd]
      rfl
    · simp only [Checked.value?_of_ne_double hd, if_neg hd]
      rfl

theorem ClipReads.skips (n : Nat) (hfirst : place 0 = some 0) :
    (List.range n).foldl (fun (w : ClipWalk) _ => w.skip blocks) { state := s, place := some 0, damaged := false, rows := [] } =
      { state := cond ((List.range n).any (widthHit hit place)) t s, place := place n, damaged := (place n).isNone, rows := [] } := by
  induction n with
  | zero =>
    rw [hfirst]
    rfl
  | succ n ih =>
    rw [List.range_succ, List.foldl_append, ih, List.foldl_cons, List.foldl_nil, hr.skip _ hnext]
    simp

omit hr in
/-- A row is damaged when its place is lost, or that of the row after it. -/
theorem rowAt_damaged_of_lost {k : Nat} (h : place k = none ∨ place (k + 1) = none) : (rowAt word place k).damaged = true := by
  rw [rowAt]
  cases hk : place k with
  | none => rfl
  | some o =>
    have hlost : rowAfter word o = none := by
      rw [hnext, hk] at h
      exact h.resolve_left nofun
    have hd : (word (o + 2)).health = .double := by
      by_contra hd
      simp [rowAfter, hd] at hlost
    simp only [storedRow, if_pos hd]

/-- The row of an index is read; the damage of a row whose place is lost has been noted before. -/
theorem ClipReads.read {d : Bool} {index : Nat} (hd : place index = none → d = true) (rows : List ClipRow) :
    ClipWalk.read blocks { state := cond m t s, place := place index, damaged := d, rows := rows } index =
      { state := cond (m || rowHit hit word place index) t s
        place := place (index + 1)
        damaged := d || (rowAt word place index).damaged
        rows := rowAt word place index :: rows } := by
  rw [hnext, rowHit, rowAt]
  cases hk : place index with
  | none =>
    rw [hd hk]
    simp [ClipWalk.read, lostRow]
  | some o => exact hr.readStored m d index o rows

theorem ClipReads.reads {d : Bool} {first : Nat} (hd : place first = none → d = true) (n : Nat) :
    ((List.range n).map (first + ·)).foldl (fun (w : ClipWalk) i => w.read blocks i)
        { state := cond m t s, place := place first, damaged := d, rows := [] } =
      { state := cond (m || (List.range n).any fun i => rowHit hit word place (first + i)) t s
        place := place (first + n)
        damaged := d || ((List.range n).map fun i => rowAt word place (first + i)).any (·.damaged)
        rows := ((List.range n).map fun i => rowAt word place (first + i)).reverse } := by
  induction n with
  | zero => simp
  | succ n ih =>
    have hlost (h : place (first + n) = none) :
        (d || ((List.range n).map fun i => rowAt word place (first + i)).any (·.damaged)) = true := by
      cases n with
      | zero => simp [hd h]
      | succ n => simp [List.range_succ, rowAt_damaged_of_lost hnext (k := first + n) (.inr h)]
    rw [List.range_succ, List.map_append, List.foldl_append, ih, List.map_cons, List.map_nil, List.foldl_cons, List.foldl_nil,
      hr.read _ hnext hlost]
    simp [Bool.or_assoc, Nat.add_assoc]

end

/-! ## The walk over the rows (R136, R137, R139) -/

/-- The rows from the first asked for on. -/
def rowsFrom (word : Nat → Checked (Option Nat)) (place : Nat → Option Nat) (first n : Nat) : List ClipRow :=
  (List.range n).map fun i => rowAt word place (first + i)

/-- A word that a read of `n` rows from the first on meets is among the words of `hit` (log 34). -/
def walkHit (hit : Nat → Bool) (word : Nat → Checked (Option Nat)) (place : Nat → Option Nat) (first n : Nat) : Bool :=
  (List.range first).any (widthHit hit place) || (List.range n).any fun i => rowHit hit word place (first + i)

/-- The width words of the rows before the first, and every word of the rows returned. -/
theorem walkHit_iff {hit : Nat → Bool} {word : Nat → Checked (Option Nat)} {place : Nat → Option Nat} {first n : Nat} :
    walkHit hit word place first n = true ↔ ∃ k o, place k = some o ∧
      ((k < first ∧ hit (o + 2) = true) ∨
        (first ≤ k ∧ k - first < n ∧
          ∃ i, hit (o + i) = true ∧
            (i < 3 ∨ ((word (o + 2)).health ≠ .double ∧ i < 3 + (word (o + 2)).val.getD 0)))) := by
  have hextent (o i : Nat) : i < rowExtent word o ↔
      i < 3 ∨ ((word (o + 2)).health ≠ .double ∧ i < 3 + (word (o + 2)).val.getD 0) := by
    rw [rowExtent]
    split
    · next hd => simp [hd]
    · next hd => exact ⟨fun hi => .inr ⟨hd, hi⟩, fun hi => by omega⟩
  simp only [walkHit, widthHit, rowHit, Bool.or_eq_true, List.any_eq_true, Option.any_eq_true, List.mem_range, hextent]
  constructor
  · rintro (⟨k, hk, o, ho, hhit⟩ | ⟨j, hj, o, ho, i, hi, hhit⟩)
    · exact ⟨k, o, ho, .inl ⟨hk, hhit⟩⟩
    · exact ⟨first + j, o, ho, .inr ⟨by omega, by omega, i, hhit, hi⟩⟩
  · rintro ⟨k, o, ho, ⟨hk, hhit⟩ | ⟨hk, hn, i, hhit, hi⟩⟩
    · exact .inl ⟨k, hk, o, ho, hhit⟩
    · exact .inr ⟨k - first, hn, o, by rwa [Nat.add_sub_cancel' hk], i, hi, hhit⟩

theorem walkHit_none (word : Nat → Checked (Option Nat)) (place : Nat → Option Nat) (first n : Nat) :
    walkHit (fun _ => false) word place first n = false := by
  simp [Bool.eq_false_iff, walkHit_iff]

section
variable {word : Nat → Checked (Option Nat)} {hit : Nat → Bool} {s t : State} {place : Nat → Option Nat} {clip : Clip}
  {first count : Nat}

theorem walkClip_beyond (h : clip.rows ≤ first) :
    walkClip clip first count s = { state := s, place := none, damaged := false, rows := [] } := if_pos h

theorem ClipReads.walkClip (hr : ClipReads clip.blocks word hit s t) (hfirst : place 0 = some 0)
    (hnext : ∀ k, place (k + 1) = (place k).bind (rowAfter word)) (h : first < clip.rows) (hc : 1 ≤ count) :
    walkClip clip first count s =
      { state := cond (walkHit hit word place first (min count (clip.rows - first))) t s
        place := place (first + min count (clip.rows - first))
        damaged := (rowsFrom word place first (min count (clip.rows - first))).any (·.damaged)
        rows := (rowsFrom word place first (min count (clip.rows - first))).reverse } := by
  obtain ⟨n, hn⟩ : ∃ n, min count (clip.rows - first) = n + 1 := ⟨min count (clip.rows - first) - 1, by omega⟩
  have hdamaged : ((place first).isNone || (rowsFrom word place first (n + 1)).any (·.damaged)) =
      (rowsFrom word place first (n + 1)).any (·.damaged) := by
    cases hp : place first with
    | none => simp [rowsFrom, List.range_succ_eq_map, rowAt_damaged_of_lost hnext (.inl hp)]
    | some o => rfl
  rw [Machine.walkClip, if_neg (Nat.not_le.mpr h), hr.skips hnext first hfirst, hn,
    hr.reads _ hnext fun hp => by rw [hp]; rfl]
  exact congrArg (fun d => ClipWalk.mk _ _ d _) hdamaged

end

/-! ## How the request is answered (R137 to R139) -/

theorem readClipChecks_eq (id first count : Nat) : readClipChecks [id, first, count] =
    [decide (id ≤ 63), decide (first ≤ 1023), decide (1 ≤ count ∧ count ≤ 7)] := by
  simp only [readClipChecks, inRange, Nat.zero_le, true_and, List.getD_cons_zero, List.getD_cons_succ]

/-- The part `u` left by a read, with the damage of the rows returned among the flags of the slot, and the answer (log 29). -/
def State.clipAnswered (s u : State) (tag : Byte) (id first : Nat) (rows : List ClipRow) : State :=
  let t := s.track id
  let flags := { t.clip.flags with damaged := t.clip.flags.damaged || rows.any (·.damaged) }
  State.withReply
    { u with trk := { s.trk with slots := s.trk.slots.set id { t with clip := { t.clip with flags := flags } } } }
    tag (.done (.readClip id t.state t.clip.valid t.clip.rows t.clip.blocks.length flags first rows))

/-- An answer without rows leaves the table as it is. -/
theorem clipAnswered_nil {s : State} {id : Nat} (h : (s.track id).state ≠ .free) (tag : Byte) (first : Nat) :
    s.clipAnswered s tag id first [] =
      s.withReply tag (.done (.readClip id (s.track id).state (s.track id).clip.valid (s.track id).clip.rows
        (s.track id).clip.blocks.length (s.track id).clip.flags first [])) := by
  simp only [State.clipAnswered, List.any_nil, Bool.or_false]
  exact congrArg (State.withReply · tag _) (State.setTrack_track (State.lt_of_state_ne_free h))

theorem markDamaged_eq {u s : State} (hu : u.trk = s.trk) {id : Nat} (h : (s.track id).state ≠ .free) (damaged : Bool) :
    markDamaged id damaged u =
      { u with
        trk := { s.trk with
          slots := s.trk.slots.set id
            { s.track id with
              clip := { (s.track id).clip with
                flags := { (s.track id).clip.flags with damaged := (s.track id).clip.flags.damaged || damaged } } } } } := by
  have htrack : u.track id = s.track id := congrArg (Trk.slot · id) hu
  rw [← htrack] at h ⊢
  rw [← hu]
  cases damaged with
  | true =>
    simp only [markDamaged, Bool.or_true]
    exact if_pos ⟨trivial, h⟩
  | false =>
    simp only [markDamaged, Bool.or_false]
    exact (if_neg (fun hm => Bool.noConfusion hm.1)).trans
      (State.setTrack_track (s := u) (State.lt_of_state_ne_free h)).symm

section
variable {s : State} (tag : Byte) {id first count : Nat}

theorem handleReadClip_badValue {i : Nat} (hi : firstBad (readClipChecks [id, first, count]) i) :
    handleReadClip tag [id, first, count] s = s.withReply tag (.refused 0x39 .badValue i) := by
  simp only [handleReadClip, firstFailing_of_firstBad hi]
  rfl

variable (hok : allOk (readClipChecks [id, first, count]))
include hok

theorem handleReadClip_free (hf : (s.track id).state = .free) :
    handleReadClip tag [id, first, count] s = s.withReply tag (.refused 0x39 .notHeld 0) := by
  simp only [handleReadClip, firstFailing_of_allOk hok, List.getD_cons_zero, if_pos hf]
  rfl

variable (hf : (s.track id).state ≠ .free)
include hf

theorem handleReadClip_walked {w : ClipWalk} {u : State} {rows : List ClipRow}
    (hw : walkClip (s.track id).clip first count s = w) (hstate : w.state = u) (hu : u.trk = s.trk)
    (hrows : w.rows = rows.reverse) (hdamaged : w.damaged = rows.any (·.damaged)) :
    handleReadClip tag [id, first, count] s = s.clipAnswered u tag id first rows := by
  simp only [handleReadClip, firstFailing_of_allOk hok, List.getD_cons_zero, List.getD_cons_succ, if_neg hf, hw, hstate, hrows,
    hdamaged, markDamaged_eq hu hf, List.reverse_reverse]
  rfl

end

/-- READ_CLIP is taken in every state but FAULTED (Table LXVII). -/
theorem refusedByState_readClip {st : Inspection} (h : st ≠ .faulted) : refusedByState .readClip st = none := by
  cases st with
  | faulted => exact absurd rfl h
  | _ => rfl

theorem exec_readClip {s u : State} (h : s.listening) (hs : s.ict.state ≠ .faulted) (tag : Byte) (hr : u.rests)
    {id first count : Nat} (hid : id < 256) (hfirst : first < 65536) (hcount : count < 256)
    (hu : handleReadClip tag [id, first, count] s = u) : exec (rowOf .readClip tag [id, first, count]) s = .next u.sends := by
  have hf : fitsWidths Request.readClip.fieldWidths [id, first, count] := by
    simp only [Request.fieldWidths, fitsWidths_cons_iff, fitsWidths_nil, and_true]
    omega
  refine exec_rowOf_handled h (refusedByState_readClip hs) (by decide) tag hf ?_ hr
  simp only [handle, readFields_fieldBytes hf]
  exact hu

/-- The part that a read leaves in mending a word rests once it has answered. -/
theorem rests_clipAnswered {s u : State} (h : s.listening) (hl : u.lnk = s.lnk) (hd : u.nothingDue) (tag : Byte)
    (id first : Nat) (rows : List ClipRow) : (s.clipAnswered u tag id first rows).rests :=
  h.rests_answered (t := { u with trk := _ }) hl (State.nothingDue_congr hd rfl rfl rfl rfl) tag _

theorem clipMended_nothingDue {s : State} (h : s.nothingDue) (blocks : List Nat) (offset : Nat) :
    (s.clipMended blocks offset).nothingDue :=
  State.nothingDue_withOccurrence (s := { s with cls := { s.cls with words := s.clipWordsMended blocks offset } })
    (State.nothingDue_congr h rfl rfl rfl rfl) ..

end Sys2Proof.Machine

namespace Sys2Proof.Clips

open Sys2Proof.Machine

/-- Settles O55: the words the read meets decide whether it mends one, and the words of the rows what it returns. -/
theorem readClip : Obligations.ReadClip := by
  intro s tag id first count h hs hid hfirst hcount request t word answer
  have ⟨⟨_, hnothing, _⟩, _⟩ := h
  have run {u : State} (hu : handleReadClip tag [id, first, count] s = u) (hr : u.rests) : exec request s = .next u.sends :=
    exec_readClip h hs tag hr hid hfirst hcount hu
  refine ⟨fun i hi => ?_, fun h63 h1023 hc1 hc7 => ?_⟩
  · exact run (handleReadClip_badValue tag (by rwa [readClipChecks_eq])) (h.rests_withReply _ _)
  · have hok : allOk (readClipChecks [id, first, count]) := by simp [allOk, readClipChecks_eq, h63, h1023, hc1, hc7]
    refine ⟨fun hfree => ?_, fun hst hrows => ?_, ?_⟩
    · exact run (handleReadClip_free tag hok hfree) (h.rests_withReply _ _)
    · have hanswered := handleReadClip_walked tag hok hst (rows := []) (walkClip_beyond hrows) rfl rfl rfl rfl
      rw [clipAnswered_nil hst] at hanswered
      exact run hanswered (h.rests_withReply _ _)
    · intro place hst hrows h0 hnext read row rows flags answered address met
      have reads {hit : Nat → Bool} {v : State} (hr : ClipReads t.clip.blocks (s.clipWord t.clip.blocks) hit s v)
          {m : Bool} (hm : walkHit hit (s.clipWord t.clip.blocks) place first (min count (t.clip.rows - first)) = m)
          (hl : (cond m v s).lnk = s.lnk) (ht : (cond m v s).trk = s.trk) (hd : (cond m v s).nothingDue) :
          exec request s = .next (answered (cond m v s)).sends := by
        have hwalk := hr.walkClip h0 hnext hrows hc1
        rw [hm] at hwalk
        exact run (handleReadClip_walked tag hok hst hwalk rfl ht rfl rfl) (rests_clipAnswered h hl hd tag id first _)
      refine ⟨fun hright => ?_, fun k hwf hk hothers htakes => ?_⟩
      · exact reads (clipReads_right hright) (walkHit_none ..) rfl rfl hnothing
      · obtain ⟨-, -, -, -, hw, -⟩ := (memoryWf_iff s).mp hwf
        have hr := clipReads_single hw hk hothers htakes
        have hmet : walkHit (sameAddress t.clip.blocks k) (s.clipWord t.clip.blocks) place first
            (min count (t.clip.rows - first)) = true ↔ met (address k) := by
          simp only [walkHit_iff, sameAddress, decide_eq_true_eq]
          rfl
        refine ⟨fun hnot => ?_, fun hyes => ⟨s.clipWordsMended t.clip.blocks k, get_clipWordsMended hw, ?_⟩⟩
        · exact reads hr (Bool.eq_false_iff.mpr (mt hmet.mp hnot)) rfl rfl hnothing
        · exact reads hr (hmet.mpr hyes) (State.withOccurrence_lnk ..) (State.withOccurrence_trk ..)
            (clipMended_nothingDue hnothing _ _)

end Sys2Proof.Clips
end

section
/-! PROOFS. The order of records, the record that it picks out of the queue, and what a full queue makes of a new report (R147 to R150). -/

namespace Sys2Proof.Machine

/-! ## The order of records (R150) -/

/-- The hardware rank number names its kind. -/
theorem ReportKind.index_inj {a b : ReportKind} : a.index = b.index ↔ a = b := by
  refine ⟨fun h => ?_, congrArg _⟩
  have ofIndex (k : ReportKind) : ReportKind.all[k.index]? = some k := by cases k <;> rfl
  exact Option.some.inj ((ofIndex a).symm.trans ((congrArg (ReportKind.all[·]?) h).trans (ofIndex b)))

/-- The three keys, one after another, by which record `v` stands before record `r` or level with it. -/
theorem Record.before_eq_false_iff (r v : Record) : r.before v = false ↔
    r.priority ≤ v.priority ∧ (r.priority = v.priority → v.report.kind.index ≤ r.report.kind.index ∧
      (r.report.kind.index = v.report.kind.index → v.entry ≤ r.entry)) := by
  simp only [Record.before, ← ReportKind.index_inj, Bool.or_eq_false_iff, Bool.and_eq_false_iff, decide_eq_false_iff_not]
  omega

theorem Record.before_asymm (a b : Record) (h : a.before b = true) : b.before a = false := by
  rw [← Bool.not_eq_false, Record.before_eq_false_iff] at h
  rw [Record.before_eq_false_iff]
  omega

/-- Records that are level, or stand after one another, do so across a third. -/
theorem Record.not_before_trans (a b c : Record) (hab : a.before b = false) (hbc : b.before c = false) :
    a.before c = false := by
  rw [Record.before_eq_false_iff] at *
  omega

/-! ## The record picked (R147, R150) -/

/-- With an order of this sort no record of the list goes before the one picked. -/
theorem pick_first {before : Record → Record → Bool} (hasymm : ∀ a b, before a b = true → before b a = false)
    (htrans : ∀ a b c, before a b = false → before b c = false → before a c = false) {l : List Record} {v : Record}
    (h : pick before l = some v) : ∀ r ∈ l, before r v = false := by
  have hirrefl (a : Record) : before a a = false := by
    cases ha : before a a with
    | false => rfl
    | true => exact ha.symm.trans (hasymm a a ha)
  induction l generalizing v with
  | nil => cases h
  | cons x rest ih =>
    rw [pick] at h
    cases hp : pick before rest with
    | none =>
      have hrest : rest = [] := by
        by_contra hne
        simpa [hp] using pick_isSome before rest hne
      simp only [hp, Option.some.injEq] at h
      simp [hrest, h, hirrefl]
    | some q =>
      have hq := ih hp
      simp only [hp] at h
      rw [List.forall_mem_cons]
      split at h <;> cases h
      · next hqx => exact ⟨hasymm _ _ hqx, hq⟩
      · next hqx => exact ⟨hirrefl x, fun r hr => htrans r q x (hq r hr) (Bool.not_eq_true _ ▸ hqx)⟩

/-- No record of the queue goes before the one offered. -/
theorem Rpq.offered_first {q : Rpq} {v : Record} (h : q.offered = some v) : ∀ r ∈ q.queue, r.before v = false :=
  pick_first Record.before_asymm Record.not_before_trans h

/-- The record that eviction takes goes before no record of the queue. -/
theorem Rpq.victim_last {q : Rpq} {v : Record} (h : q.victim = some v) : ∀ r ∈ q.queue, v.before r = false :=
  pick_first (before := fun a b => Record.before b a) (fun a b => Record.before_asymm b a)
    (fun a b c hab hbc => Record.not_before_trans c b a hbc hab) h

/-! ## A report lost (R147, R148) -/

theorem Rpq.mem_lose_lostKinds (q : Rpq) (r : Report) (k : ReportKind) :
    k ∈ (q.lose r).lostKinds ↔ k = r.kind ∨ k ∈ q.lostKinds := by
  simp only [Rpq.lose]
  split
  · next h => exact ⟨.inr, fun hk => hk.elim (fun e => e ▸ h) id⟩
  · rw [List.mem_append, List.mem_singleton, or_comm]

/-- The loss of one report as the tally, the kinds, the latch and the bounds show it (R148). -/
def Rpq.showsLoss (q : Rpq) (lost : Report) (t : Rpq) : Prop :=
  t.tally = min (q.tally + 1) 16777215 ∧ (∀ k, k ∈ t.lostKinds ↔ k = lost.kind ∨ k ∈ q.lostKinds) ∧ t.overflow = true ∧
    t.lostLines = match lost.referenceLine, q.lostLines with
      | none, b => b
      | some n, none => some (n, n)
      | some n, some (lo, hi) => some (min lo n, max hi n)

theorem Rpq.showsLoss_lose (q : Rpq) (r : Report) : q.showsLoss r (q.lose r) := by
  refine ⟨rfl, q.mem_lose_lostKinds r, rfl, ?_⟩
  change widenLost q.lostLines r.referenceLine = _
  rcases r.referenceLine with _ | n
  · rfl
  · rcases q.lostLines with _ | ⟨lo, hi⟩ <;> rfl

/-! ## What becomes of a report (R145, R147) -/

section
variable {q : Rpq} {r : Report} (close : Option Notice)

/-- A report of priority 0 is not queued. -/
theorem Rpq.take_unqueued (h : q.priorityOf r.kind = 0) : q.take r close = (q, close) := if_pos h

variable {v : Record} (hfull : Config.reportQueueSize ≤ q.queue.length) (hv : q.victim = some v)
include hfull hv

/-- A report of greater priority takes the victim's place, and the victim is lost. -/
theorem Rpq.take_evicts (h : v.priority < q.priorityOf r.kind) :
    q.take r close =
      ((Rpq.lose { q with queue := q.queue.erase v } v.report).enter (q.priorityOf r.kind) r close, v.close) := by
  simp only [Rpq.take]
  rw [if_neg (by omega), if_neg (by omega), hv]
  exact if_pos h

/-- Otherwise the report itself is lost. -/
theorem Rpq.take_discards (hp : 0 < q.priorityOf r.kind) (h : ¬v.priority < q.priorityOf r.kind) :
    q.take r close = (q.lose r, close) := by
  simp only [Rpq.take]
  rw [if_neg (by omega), if_neg (by omega), hv]
  exact if_neg h

end

/-! ## The lost report's notice (R123, R149) -/

section
variable {s : State} {r : Report} {close : Option Notice}

/-- A post that raises no notice changes the report queue alone. -/
theorem post_unnoticed (h : (s.rpq.take r close).2 = none) : post r close s = { s with rpq := (s.rpq.take r close).1 } := by
  simp only [post, postDepth, postWith]
  split
  · next ht => rw [ht]
  · next ht => rw [ht] at h; cases h

/-- A notice of a track whose words are right frees the track or changes nothing; no post arises from it. -/
theorem takeNotice_right (inner : Post) {n : Notice} (hw : (s.track n.id).wrongWords = []) :
    takeNoticeWith inner n s =
      if (s.track n.id).state = .held ∧ (s.track n.id).serial = n.serial then s.freeTrack n.id else s := by
  have hread : readRecordWith inner n.id s = s := by simp [readRecordWith, hw]
  simp only [takeNoticeWith, hread]

/-- A post that raises a notice of a track whose words are right. -/
theorem post_noticed {n : Notice} (h : (s.rpq.take r close).2 = some n) (hw : (s.track n.id).wrongWords = []) :
    post r close s =
      let u : State := { s with rpq := (s.rpq.take r close).1 }
      if (s.track n.id).state = .held ∧ (s.track n.id).serial = n.serial then u.freeTrack n.id else u := by
  simp only [post, postDepth, postWith]
  split
  · next ht => rw [ht] at h; cases h
  · next ht =>
    rw [ht] at h ⊢
    cases h
    exact takeNotice_right (s := { s with rpq := _ }) _ hw

end

end Sys2Proof.Machine

namespace Sys2Proof.Reports

open Sys2Proof.Machine

/-- Settles O11: the order's three keys are those of the statement, and no record goes before the one picked by the order. -/
theorem offerIsBest : Obligations.OfferIsBest := by
  intro q
  refine ⟨fun hne => Option.isSome_iff_exists.mp (pick_isSome Record.before q.queue hne), fun v hv => ?_⟩
  exact ⟨pick_mem _ _ _ hv, fun r hr => (Record.before_eq_false_iff r v).mp (Rpq.offered_first hv r hr)⟩

/-- Settles O12: a full queue has a victim, and its priority decides which report is lost; the loss shows in the same way for both. -/
theorem fullQueueLosesOne : Obligations.FullQueueLosesOne := by
  refine ⟨fun q r close => Rpq.take_unqueued close, fun s r close => ⟨post_unnoticed, fun n hn hw => ⟨?_, ?_⟩⟩,
    fun q r close hfull hp => ?_⟩
  · exact fun hst hse => (post_noticed hn hw).trans (if_pos ⟨hst, hse⟩)
  · exact fun hnot => (post_noticed hn hw).trans (if_neg fun h => hnot.elim (· h.1) (· h.2))
  · have hne : q.queue ≠ [] := List.ne_nil_of_length_pos (by omega)
    obtain ⟨v, hv⟩ := Option.isSome_iff_exists.mp (pick_isSome (fun a b => Record.before b a) q.queue hne)
    refine ⟨v, pick_mem _ _ _ hv, fun x hx => ?_, ?_⟩
    · obtain ⟨hle, hkeys⟩ := (Record.before_eq_false_iff v x).mp (Rpq.victim_last hv x hx)
      exact ⟨hle, fun he => ⟨(hkeys he.symm).1, fun hi => (hkeys he.symm).2 hi.symm⟩⟩
    · by_cases hlt : v.priority < q.priorityOf r.kind
      · simp only [if_pos hlt, Rpq.take_evicts close hfull hv hlt, true_and]
        exact ⟨rfl, Rpq.showsLoss_lose { q with queue := q.queue.erase v } v.report⟩
      · simp only [if_neg hlt, Rpq.take_discards close hfull hv hp hlt, true_and]
        exact ⟨rfl, q.showsLoss_lose r⟩

end Sys2Proof.Reports
end

section
/-! PROOFS. SET_PRIORITY and SET_ATTENTION: when they are taken, the checks of their fields, and what they set (R144, R152, R153). -/

namespace Sys2Proof.Machine

/-! ## A request on the report queue's settings (Table LXVII) -/

/-- The requests that set what RPQ goes by. -/
def queueRequests : List Request := [.setPriority, .setAttention]

/-- FAULTED alone bars them. -/
theorem refusedByState_queueRequests {r : Request} (h : r ∈ queueRequests) :
    refusedByState r .faulted = some .faulted ∧ ∀ st, st ≠ .faulted → refusedByState r st = none := by
  simp only [queueRequests, List.mem_cons, List.not_mem_nil, or_false] at h
  refine ⟨by rcases h with rfl | rfl <;> rfl, fun st hst => ?_⟩
  cases st with
  | faulted => exact absurd rfl hst
  | _ => rcases h with rfl | rfl <;> rfl

/-- They have two fields of one byte. -/
theorem fitsWidths_queueRequests {r : Request} (h : r ∈ queueRequests) {a b : Nat} (ha : a < 256) (hb : b < 256) :
    fitsWidths r.fieldWidths [a, b] := by
  have hw : r.fieldWidths = [1, 1] := by
    simp only [queueRequests, List.mem_cons, List.not_mem_nil, or_false] at h
    rcases h with rfl | rfl <;> rfl
  simp only [hw, fitsWidths_cons_iff, fitsWidths_nil, and_true]
  omega

/-- A request with fields that fit, in a state that does not take it. -/
theorem exec_rowOf_refusedByState {s : State} (h : s.listening) {r : Request} (tag : Byte) {f : List Nat}
    (hf : fitsWidths r.fieldWidths f) {reason : RefuseReason} (hr : refusedByState r s.ict.state = some reason) :
    exec (rowOf r tag f) s = .next (s.withReply tag (.refused r.code reason 0)).sends :=
  exec_row_refusedByState h r tag (by rw [fieldBytes_length hf.1]; exact fieldWidths_sum_le r) hr

/-- Outside FAULTED the request goes to RPQ, and is over once RPQ has answered it. -/
theorem exec_queueRequest {s : State} (h : s.listening) (hs : s.ict.state ≠ .faulted) {r : Request} (hr : r ∈ queueRequests)
    {tag : Byte} {f : List Nat} (hf : fitsWidths r.fieldWidths f) {q : Rpq} {b : ReplyBody}
    (ht : handle r tag (fieldBytes r.fieldWidths f) s = State.withReply { s with rpq := q } tag b) :
    exec (rowOf r tag f) s = .next (State.withReply { s with rpq := q } tag b).sends := by
  have hn : r ≠ .loadTable := by
    rintro rfl
    exact absurd hr (by decide)
  exact exec_rowOf_handled h ((refusedByState_queueRequests hr).2 _ hs) hn tag hf ht
    (h.rests_answered rfl (State.nothingDue_congr h.rests.1 rfl rfl rfl rfl) tag b)

/-! ## SET_PRIORITY (R144) -/

theorem ReportKind.index_lt (k : ReportKind) : k.index < 11 := by cases k <;> decide

theorem ReportKind.ofCode_index (k : ReportKind) : ReportKind.ofCode (0x80 + k.index) = some k := by cases k <;> rfl

/-- The report kinds have the codes 80 to 8A (hex). -/
theorem ReportKind.ofCode_eq_none_iff (c : Nat) : ReportKind.ofCode c = none ↔ c < 0x80 ∨ 0x8A < c := by
  have hlen : ReportKind.all.length = 11 := rfl
  rw [ReportKind.ofCode]
  split
  · next h => simp [h]
  · rw [List.getElem?_eq_none_iff, hlen]
    omega

theorem ReportKind.fixed_iff (k : ReportKind) : k.fixed = true ↔ k = .fault ∨ k = .queueLoss ∨ k = .state := by
  cases k <;> decide

/-- A list written at a place, read there. -/
theorem getD_set_self {α : Type} {l : List α} {i : Nat} (h : i < l.length) (a d : α) : (l.set i a).getD i d = a := by
  simp [List.getD, h]

section
variable (s : State) (tag : Byte) {code p : Nat}

theorem handleSetPriority_noKind (h : ReportKind.ofCode code = none) :
    handleSetPriority tag [code, p] s = s.badValue tag .setPriority 0 := by
  simp only [handleSetPriority, List.getD_cons_zero, h]

variable {k : ReportKind} (hk : ReportKind.ofCode code = some k)
include hk

theorem handleSetPriority_high (h : 3 < p) : handleSetPriority tag [code, p] s = s.badValue tag .setPriority 1 := by
  simp only [handleSetPriority, List.getD_cons_zero, hk]
  exact if_pos h

/-- The settings after the request, and the DONE that carries the kind's two priorities as they then are. -/
theorem handleSetPriority_taken (h : p ≤ 3) {q : Rpq}
    (hq : (if p = 0 ∧ k.fixed = true then s.rpq else s.rpq.establish k p s.las.processing.isSome) = q) :
    handleSetPriority tag [code, p] s =
      State.withReply { s with rpq := q } tag
        (.done (.setPriority k (q.priority.getD k.index 0) (q.pendingPriority.getD k.index none))) := by
  subst hq
  simp only [handleSetPriority, List.getD_cons_zero, hk]
  exact if_neg (Nat.not_lt.mpr h)

end

/-! ## SET_ATTENTION (R152, R153) -/

theorem attn_iff (s : State) : s.attn = true ↔
    s.rpq.watermark ≤ s.rpq.queue.length ∨ (∃ r ∈ s.rpq.queue, s.rpq.attention ≤ r.priority) ∨ s.ict.state = .faulted := by
  simp only [State.attn, Bool.or_eq_true, decide_eq_true_eq, List.any_eq_true, beq_iff_eq, or_assoc]

/-- The ranges of the two fields, written out. -/
theorem setAttentionChecks_eq (watermark attention : Nat) : setAttentionChecks [watermark, attention] =
    [decide (1 ≤ watermark ∧ watermark ≤ 128), decide (1 ≤ attention ∧ attention ≤ 3)] := rfl

theorem handleSetAttention_badValue (s : State) (tag : Byte) {f : List Nat} {i : Nat} (hi : firstBad (setAttentionChecks f) i) :
    handleSetAttention tag f s = s.badValue tag .setAttention i := by
  simp only [handleSetAttention, firstFailing_of_firstBad hi]

/-- Both values are set, and ATTN is decided from them. -/
theorem handleSetAttention_taken (s : State) (tag : Byte) {watermark attention : Nat}
    (hok : allOk (setAttentionChecks [watermark, attention])) :
    handleSetAttention tag [watermark, attention] s =
      (let t : State := { s with rpq := { s.rpq with watermark := watermark, attention := attention } }
       t.withReply tag (.done (.setAttention watermark attention t.attn))) := by
  simp only [handleSetAttention, firstFailing_of_allOk hok]
  rfl

end Sys2Proof.Machine

namespace Sys2Proof.Reports

open Sys2Proof.Machine

/-- Settles O56: the code and the priority are checked in this order; then the kind and the line in processing decide where the priority
is set. -/
theorem setPriority : Obligations.SetPriority := by
  intro s tag code p h hs hcode hp256 row
  have hf := fitsWidths_queueRequests (r := .setPriority) (by decide) hcode hp256
  have run {q : Rpq} {b : ReplyBody} (ht : handleSetPriority tag [code, p] s = State.withReply { s with rpq := q } tag b) :
      exec row s = .next (State.withReply { s with rpq := q } tag b).sends :=
    exec_queueRequest h hs (r := .setPriority) (by decide) hf
      ((congrArg (handleSetPriority tag · s) (readFields_fieldBytes hf)).trans ht)
  refine ⟨fun hnone => ?_, fun hlo hhi hp => ?_, fun kind hkind hp hprio hpend => ?_⟩
  · exact run (q := s.rpq) (handleSetPriority_noKind s tag ((ReportKind.ofCode_eq_none_iff code).mpr hnone))
  · obtain ⟨k, hk⟩ := Option.ne_none_iff_exists'.mp (mt (ReportKind.ofCode_eq_none_iff code).mp (by omega))
    exact run (q := s.rpq) (handleSetPriority_high s tag hk hp)
  · have hk : ReportKind.ofCode code = some kind := hkind ▸ kind.ofCode_index
    intro fixed
    have hset (hno : 0 < p ∨ ¬fixed) : ¬(p = 0 ∧ kind.fixed = true) := fun hx =>
      hno.elim (Nat.ne_of_gt · hx.1) (· ((kind.fixed_iff).mp hx.2))
    refine ⟨fun h0 hfix => ?_, fun hno hidle => ?_, fun hno hbusy => ?_⟩
    · exact run (q := s.rpq) (handleSetPriority_taken s tag hk hp (if_pos ⟨h0, kind.fixed_iff.mpr hfix⟩))
    · have htaken := handleSetPriority_taken s tag hk hp (if_neg (hset hno))
      simp only [hidle, Option.isSome_none, Rpq.establish, Bool.false_eq_true, if_false,
        getD_set_self (hprio ▸ kind.index_lt), getD_set_self (hpend ▸ kind.index_lt)] at htaken
      exact run htaken
    · have htaken := handleSetPriority_taken s tag hk hp (if_neg (hset hno))
      simp only [Option.isSome_iff_ne_none.mpr hbusy, Rpq.establish, if_true,
        getD_set_self (hpend ▸ kind.index_lt)] at htaken
      exact run htaken

/-- Settles O57: refused in FAULTED, and by the first field out of range; otherwise the two values are set and ATTN follows from them. -/
theorem setAttention : Obligations.SetAttention := by
  intro s tag watermark attention h hw256 ha256 row
  have hf := fitsWidths_queueRequests (r := .setAttention) (by decide) hw256 ha256
  have run (hs : s.ict.state ≠ .faulted) {q : Rpq} {b : ReplyBody}
      (ht : handleSetAttention tag [watermark, attention] s = State.withReply { s with rpq := q } tag b) :
      exec row s = .next (State.withReply { s with rpq := q } tag b).sends :=
    exec_queueRequest h hs (r := .setAttention) (by decide) hf
      ((congrArg (handleSetAttention tag · s) (readFields_fieldBytes hf)).trans ht)
  have refused (hs : s.ict.state ≠ .faulted) {i : Nat}
      (hi : firstBad [decide (1 ≤ watermark ∧ watermark ≤ 128), decide (1 ≤ attention ∧ attention ≤ 3)] i) :
      exec row s = .next (s.withReply tag (.refused 0x32 .badValue i)).sends :=
    run hs (q := s.rpq) (handleSetAttention_badValue s tag hi)
  refine ⟨fun hs => ?_, fun hs hw => ?_, fun hs hw1 hw2 ha => ?_, fun hs hw1 hw2 ha1 ha2 => ⟨?_, attn_iff _⟩⟩
  · exact exec_rowOf_refusedByState h (r := .setAttention) tag hf (hs ▸ (refusedByState_queueRequests (by decide)).1)
  · exact refused hs ⟨by simp [hw], by simp⟩
  · exact refused hs ⟨by simp [ha], by simp [hw1, hw2]⟩
  · exact run hs (handleSetAttention_taken s tag (by simp [allOk, setAttentionChecks_eq, hw1, hw2, ha1, ha2]))

end Sys2Proof.Reports
end

section
/-! PROOFS. What the receiver makes of single bytes, rejected frames and the gap timer, and what the outbound arbiter begins. -/

namespace Sys2Proof.Machine

/-- An event of a part out of reset that leads to a state at rest is over with it. -/
theorem inService_ends {event : State → State} {s t : State} (h : s.hold = none) (he : event s = t) (ht : t.atRest) :
    inService event s = .next t := by
  subst he
  exact inService_of_atRest event s h ht

/-! ## The outbound arbiter (R150, R151, R165) -/

/-- A frame boundary of a serving part that is not sending RESET's DONE, after which the part is serving. -/
theorem exec_frameBoundary_serving {s t : State} (h : s.serving) (hx : Outgoing.isResetDone s.lnk.tx = false)
    (ht : arbitrate s = t) (hs : t.serving) : exec .frameBoundary s = .next t := by
  have he : frameBoundary s = t := by rw [frameBoundary, if_neg (Bool.eq_false_iff.mp hx), ht]
  exact inService_ends h.1 he hs.atRest

/-- A serving part that begins a frame goes on serving. -/
theorem State.serving.sending {s t : State} (h : s.serving) {o : Outgoing} {replies : List Reply} {q : Rpq}
    (ht : t = { s with rpq := q, lnk := { s.lnk with replies := replies, tx := some o } }) : t.serving := by
  obtain ⟨hh, hd, hr, hi, hj, -⟩ := h
  subst ht
  exact ⟨hh, State.nothingDue_congr hd rfl rfl rfl rfl, hr, hi, hj, fun hn => absurd hn (Option.some_ne_none o)⟩

theorem arbitrate_reply {s : State} {r : Reply} {rest : List Reply} (h : s.lnk.replies = r :: rest) :
    arbitrate s = s.beginReply r rest := by
  simp only [arbitrate, h]

theorem arbitrate_report {s : State} {v : Record} (h : s.lnk.replies = []) (hv : s.rpq.offered = some v) :
    arbitrate s = s.beginReport v := by
  simp only [arbitrate, h, hv]

theorem arbitrate_idle {s : State} (h : s.lnk.replies = []) (hq : s.rpq.queue = []) :
    arbitrate s = { s with lnk := { s.lnk with tx := none } } := by
  simp only [arbitrate, h, (Rpq.offered_none _).mpr hq]

theorem Rpq.leave_of_tally_zero {q : Rpq} (v : Record) (h : q.tally = 0) : q.leave v = { q with queue := q.queue.erase v } :=
  if_pos h

/-- QUEUE_LOSS takes the place of the record that leaves. -/
theorem Rpq.leave_of_tally_pos {q : Rpq} (v : Record) (h : 0 < q.tally) :
    q.leave v =
      { q with
        queue := q.queue.erase v ++
          [{ report := .queueLoss q.tally q.lostKinds q.lostLines, priority := q.priority.getD 1 0
             entry := q.entries + 1, close := none }]
        entries := q.entries + 1, tally := 0, lostKinds := [], lostLines := none } :=
  if_neg (Nat.ne_of_gt h)

/-! ### What begins at an IDLE transmitter -/

theorem sends_reply {s : State} {r : Reply} {rest : List Reply} (hx : s.lnk.tx = none) (hr : s.lnk.replies = r :: rest)
    (h : s.rpq.queue = [] ∨ s.lnk.resetPending = true) : s.sends = s.beginReply r rest := by
  unfold State.sends
  rw [hx, hr]
  rcases h with hq | hz
  · rw [(Rpq.offered_none _).mpr hq]
  · cases s.rpq.offered with
    | none => rfl
    | some v => exact if_pos hz

theorem sends_report {s : State} {v : Record} (hx : s.lnk.tx = none) (hr : s.lnk.replies = [])
    (hv : s.rpq.offered = some v) : s.sends = s.beginReport v := by
  unfold State.sends
  rw [hx, hr, hv]

/-- With a reply and a record both there, the free choice takes one of them. -/
theorem sends_either {s : State} {r : Reply} {rest : List Reply} {v : Record} (hx : s.lnk.tx = none)
    (hr : s.lnk.replies = r :: rest) (hv : s.rpq.offered = some v) (hz : s.lnk.resetPending = false) :
    s.sends = State.beginReply { s with choices := s.choices + 1 } r rest ∨
      s.sends = State.beginReport { s with choices := s.choices + 1 } v := by
  have hsends : s.sends = if Config.replyFirst s.choices then State.beginReply { s with choices := s.choices + 1 } r rest
      else State.beginReport { s with choices := s.choices + 1 } v := by
    unfold State.sends
    rw [hx, hr, hv]
    exact if_neg (Bool.eq_false_iff.mp hz)
  rw [hsends]
  split
  · exact .inl rfl
  · exact .inr rfl

/-! ## A frame rejected (R158, R160) -/

/-- The link with one more reject of a reason counted, and no frame being assembled. -/
def Lnk.afterReject (l : Lnk) (reason : RejectReason) (rx : Receiver) : Lnk :=
  { l with
    rx := rx, gapExpiry := none
    rejects := l.rejects.set reason.index (min (l.rejects.getD reason.index 0 + 1) 65535) }

theorem rejectFrame_enters {s : State} {reason : RejectReason} (tag : Byte) (h : s.lnk.replies.length < Config.replyBufferSize) :
    rejectFrame reason tag s =
      State.withReply { s with lnk := s.lnk.afterReject reason .hunting } tag (.reject reason) :=
  if_pos h

theorem rejectFrame_held {s : State} {reason : RejectReason} (tag : Byte)
    (h : Config.replyBufferSize ≤ s.lnk.replies.length) :
    rejectFrame reason tag s =
      { s with lnk := { s.lnk.afterReject reason .held with rejectHold := some { tag := tag, body := .reject reason } } } :=
  if_neg (Nat.not_lt.mpr h)

/-- The clock says nothing of whether a part is serving. -/
theorem State.serving.atTime {s : State} (h : s.serving) (now : Nat) : State.serving { s with now := now } := h

section
variable {s : State} {event : State → State} {reason : RejectReason} {tag : Byte} {now : Nat} (h : s.serving)
  (he : event s = rejectFrame reason tag { s with now := now })
include h he

/-- An event that rejects a frame of a serving part whose reply buffer has a free place. -/
theorem inService_rejects (hl : s.lnk.replies.length < Config.replyBufferSize) :
    inService event s =
      .next (State.withReply { s with now := now, lnk := s.lnk.afterReject reason .hunting } tag (.reject reason)).sends := by
  obtain ⟨hh, hd, hr, hi, hj, -⟩ := h
  replace he := he.trans (rejectFrame_enters tag hl)
  have := inService_of_unclaimed event s hh (by rw [he]; exact State.nothingDue_congr hd rfl rfl rfl rfl)
    (by rw [he]; exact hj) (by rw [he]; exact claimant_none _ hr hi)
  rwa [he] at this

/-- An event that rejects a frame of a serving part whose reply buffer is full: the part is sending, and the REJECT waits. -/
theorem inService_rejects_held (hl : Config.replyBufferSize ≤ s.lnk.replies.length) :
    inService event s =
      .next { s with
        now := now
        lnk := { s.lnk.afterReject reason .held with rejectHold := some { tag := tag, body := .reject reason } } } := by
  obtain ⟨hh, hd, -, -, -, hsent⟩ := h
  have hx : s.lnk.tx ≠ none := fun hn => by
    rw [(hsent hn).1] at hl
    exact absurd hl (by decide)
  exact inService_ends hh (he.trans (rejectFrame_held tag hl))
    ⟨hh, State.nothingDue_congr hd rfl rfl rfl rfl, fun hlt => absurd hlt (Nat.not_lt.mpr hl), fun hn => absurd hn hx⟩

end

/-- The expiry of the gap timer within a frame rejects it with its TAG as received so far. -/
theorem gapExpiry_rejects {s : State} {t : Nat} (hg : s.lnk.gapExpiry = some t) (hx : s.lnk.rx ≠ .hunting)
    (hy : s.lnk.rx ≠ .held) : gapExpiry s = rejectFrame .truncated s.lnk.rx.tagSoFar (s.reach t) := by
  simp only [gapExpiry, hg]
  split
  · rfl
  · rfl
  · rfl
  · next h => exact absurd h hx
  · next h => exact absurd h hy

/-- A held REJECT(QUEUE_FULL) takes the one free place of the reply buffer of a sending part, and the reply of the request in
progress waits on (R161, R164). -/
theorem settle_queueFull {s : State} {d : Reply} {stop tag : Byte} (hd : s.nothingDue) (hx : s.lnk.tx ≠ none)
    (hl : s.lnk.replies.length = 3) (hj : s.lnk.rejectHold = some { tag := tag, body := .reject .queueFull })
    (hi : s.lnk.inProgress = some { tag := stop, reply := some d }) :
    settle s = enterHeld { tag := tag, body := .reject .queueFull } s := by
  have hc : s.lnk.claimant = some (.inProgress d) := by simp only [Lnk.claimant, hi]
  have hfull : ¬(enterHeld { tag := tag, body := .reject .queueFull } s).lnk.replies.length < Config.replyBufferSize := by
    simp [enterHeld, State.setRx, hl, Config.replyBufferSize]
  have hserved : serveAll s = enterHeld { tag := tag, body := .reject .queueFull } s := by
    rw [serveAll, serve_queueFull _ s (by rw [hl]; decide) hj hc, serve, if_neg hfull]
  rw [settle, finishProcedures_of_nothingDue s hd, hserved, State.sends_of_sending (enterHeld _ s) hx,
    serveAll_of_unwanted _ fun hlt => absurd hlt hfull]

/-! ## Single bytes (R157) -/

theorem receiveByte_hunting_sync {s : State} (h : s.lnk.rx = .hunting) :
    receiveByte syncByte s = s.listen (.header [] crcStart) := by
  simp only [receiveByte, h, if_true]

theorem receiveByte_hunting_other {s : State} {b : Byte} (h : s.lnk.rx = .hunting) (hb : b ≠ syncByte) :
    receiveByte b s = s := by
  simp only [receiveByte, h, if_neg hb]

theorem receiveByte_held {s : State} (b : Byte) (h : s.lnk.rx = .held) : receiveByte b s = s := by
  simp only [receiveByte, h]

theorem deliver_held {s : State} (kind tag : Byte) (payload : List Byte) (h : s.lnk.rx = .held) :
    deliver kind tag payload s = s := by
  simp only [deliver, h]

/-- What the receiver is in, and its timer, say nothing of whether a part is at rest or serving. -/
theorem State.atRest.hears {s : State} (h : s.atRest) (rx : Receiver) (now : Nat) (gap : Option Nat) :
    (State.setRx { s with now := now } rx gap).atRest := h

end Sys2Proof.Machine

namespace Sys2Proof.Link

open Sys2Proof.Machine

/-- Settles O1: both clauses are the two cases of `step`. -/
theorem stepRunsFront : Obligations.StepRunsFront :=
  ⟨fun s c rest h => by rw [step, h], fun s h => by rw [step, h]⟩

/-- Settles O2: a byte outside a frame leaves the part at rest, so the event is its byte alone. -/
theorem byteOutsideFrame : Obligations.ByteOutsideFrame := by
  intro s b e h
  have hpassed : (s.elapse e).atRest := h.hears s.lnk.rx (s.now + e) s.lnk.gapExpiry
  refine ⟨fun hx hb => ?_, fun hx hb => ?_, fun hx => ⟨?_, fun r tag payload => ?_⟩⟩
  · subst hb
    exact inService_ends (s := s.elapse e) h.1 (receiveByte_hunting_sync hx) (h.hears _ _ _)
  · exact inService_ends (s := s.elapse e) h.1 (receiveByte_hunting_other hx hb) hpassed
  · exact inService_ends (s := s.elapse e) h.1 (receiveByte_held b hx) hpassed
  · rw [exec_row]
    exact inService_ends h.1 (deliver_held r.code tag payload hx) h

/-- Settles O3: the CHECK bytes and the gap timer reject a frame, whose REJECT finds a place or waits; and the place that a frame
boundary frees goes to a held REJECT(QUEUE_FULL). -/
theorem framesRejected : Obligations.FramesRejected := by
  refine ⟨fun s kind tag high b taken crc e h hx hb => ?_, fun s t tag h hg hl hx => ?_,
    fun s tag stop d r rest hh hd hx hr hl hj hi => ?_⟩
  · have he : receiveByte b (s.elapse e) = rejectFrame .check tag (s.elapse e) := by
      simp only [receiveByte, State.elapse_lnk, hx, if_neg hb]
    have hs : (s.elapse e).serving := h.atTime (s.now + e)
    exact ⟨fun hl => inService_rejects (event := receiveByte b) hs he hl,
      fun hl => inService_rejects_held (event := receiveByte b) hs he hl⟩
  · have hin : s.lnk.rx ≠ .hunting ∧ s.lnk.rx ≠ .held ∧ s.lnk.rx.tagSoFar = tag := by
      rcases hx with ⟨taken, crc, hx, hlt, rfl⟩ | ⟨kind, rest, crc, hx⟩ | ⟨kind, n, taken, crc, hx⟩ |
          ⟨kind, taken, crc, high, hx⟩ <;>
        simp only [hx, Receiver.tagSoFar, ne_eq, reduceCtorEq, not_false_eq_true, true_and]
      · exact List.getD_eq_default _ _ (Nat.le_of_lt_succ hlt)
      · rfl
    obtain ⟨hhunt, hheld, htag⟩ := hin
    have he := gapExpiry_rejects hg hhunt hheld
    rw [htag] at he
    exact inService_rejects h he hl
  · have he : frameBoundary s = s.beginReply r rest := by
      rw [frameBoundary, if_neg (Bool.eq_false_iff.mp hx), arbitrate_reply hr]
    have hbegun : (s.beginReply r rest).nothingDue := State.nothingDue_congr hd rfl rfl rfl rfl
    change inService frameBoundary s = _
    rw [inService, if_neg (by simp [hh]), he, settle_queueFull hbegun (Option.some_ne_none _) hl hj hi]
    rfl

/-- Settles O10: at a frame boundary the arbiter's three choices in their order, and at an IDLE transmitter what has come. -/
theorem frameBoundarySends : Obligations.FrameBoundarySends := by
  refine ⟨fun s h hx => ⟨fun r rest hr => ?_, fun v hr hv hz => ?_, fun v hr hv hz => ?_, fun hr hq => ?_⟩,
    fun s n => ⟨fun hn => ?_, fun hx =>
      ⟨fun r rest hn hr hz => ?_, fun v hn hr hv => ?_, fun r rest v hn hr hv hz => ?_⟩⟩⟩
  · exact exec_frameBoundary_serving h hx (arbitrate_reply hr) (h.sending rfl)
  · rw [← Rpq.leave_of_tally_zero v hz]
    exact exec_frameBoundary_serving h hx (arbitrate_report hr hv) (h.sending rfl)
  · rw [← Rpq.leave_of_tally_pos v hz]
    exact exec_frameBoundary_serving h hx (arbitrate_report hr hv) (h.sending rfl)
  · have hserving := h
    obtain ⟨hh, hd, hreq, hi, hj, -⟩ := h
    exact exec_frameBoundary_serving hserving hx (arbitrate_idle hr hq)
      ⟨hh, State.nothingDue_congr hd rfl rfl rfl rfl, hreq, hi, hj, fun _ => ⟨hr, hq⟩⟩
  · exact s.sends_of_allSent fun hx => hn.resolve_left (not_not_intro hx)
  · subst hn
    exact sends_reply hx hr hz
  · subst hn
    exact sends_report hx hr hv
  · subst hn
    exact sends_either hx hr hv hz

end Sys2Proof.Link
end

section
/-! PROOFS. The bytes of a frame, taken one by one, come to the frame's row (R157, R159, Table LXX). -/

namespace Sys2Proof.Machine

/-! ## Commands one after another -/

/-- A run goes on from where its first command has led. -/
theorem runAll_cons {c : Instr} {cs : List Instr} {s t : State} (h : exec c s = .next t) : runAll (c :: cs) s = runAll cs t := by
  rw [runAll, h]

/-! ## Bytes within a frame -/

/-- The link bytes, with no time between them. -/
def linkBytes (bytes : List Byte) : List Instr := bytes.map (fun b => .linkByte b 0)

/-- What the receiver listens for, and the gap timer, say nothing of whether a part is serving. -/
theorem State.serving.listen {s : State} (h : s.serving) (rx : Receiver) : (s.listen rx).serving := h

/-- A byte that takes the receiver of a serving part from one state within a frame to another. -/
theorem runAll_linkBytes_cons {s : State} (h : s.serving) {rx next : Receiver} {b : Byte} (bytes : List Byte)
    (hb : receiveByte b (s.listen rx) = s.listen next) :
    runAll (linkBytes (b :: bytes)) (s.listen rx) = runAll (linkBytes bytes) (s.listen next) :=
  runAll_cons (inService_ends (s := s.listen rx) h.1 hb (h.listen next).atRest)

section
variable {s : State} (h : s.serving)
include h

/-- PAYLOAD takes the bytes that are left to it, and the receiver enters CHECK. -/
theorem runAll_payload (kind tag : Byte) {length : Nat} {taken rest : List Byte} (crc : BitVec 16) (more : List Byte)
    (hr : rest ≠ []) (hl : taken.length + rest.length = length) :
    runAll (linkBytes (rest ++ more)) (s.listen (.payload kind tag length taken crc)) =
      runAll (linkBytes more) (s.listen (.check kind tag (taken ++ rest) (rest.foldl crcFold crc) none)) := by
  induction rest generalizing taken crc with
  | nil => exact absurd rfl hr
  | cons b rest ih =>
    cases rest with
    | nil => exact runAll_linkBytes_cons h more (if_pos (by simpa using hl.ge))
    | cons c rest =>
      simp only [List.length_cons] at hl
      have hb : receiveByte b (s.listen (.payload kind tag length taken crc)) =
          s.listen (.payload kind tag length (taken ++ [b]) (crcFold crc b)) :=
        if_neg (by omega)
      rw [List.cons_append, runAll_linkBytes_cons h _ hb,
        ih (crcFold crc b) (List.cons_ne_nil c rest) (by simp only [List.length_append, List.length_cons, List.length_nil]; omega),
        List.append_assoc]
      rfl

/-- From LENGTH high on, the payload of a length that the part takes leads to CHECK. -/
theorem runAll_body (kind tag lo hi : Byte) (crc : BitVec 16) {payload : List Byte} (more : List Byte)
    (hn : leNat [lo, hi] = payload.length) (hp : payload.length ≤ Config.payloadLimit) :
    runAll (linkBytes (hi :: (payload ++ more))) (s.listen (.header [kind, tag, lo] crc)) =
      runAll (linkBytes more)
        (s.listen (.check kind tag payload (payload.foldl crcFold (crcFold crc hi)) none)) := by
  have hb : receiveByte hi (s.listen (.header [kind, tag, lo] crc)) =
      enterBody kind tag payload.length (crcFold crc hi) (s.listen (.header [kind, tag, lo] crc)) := hn ▸ rfl
  rw [enterBody, if_neg (Nat.not_lt.mpr hp)] at hb
  split at hb
  · next h0 =>
    obtain rfl := List.length_eq_zero_iff.mp h0
    exact runAll_linkBytes_cons h more hb
  · next h0 =>
    rw [runAll_linkBytes_cons h _ hb]
    exact runAll_payload h kind tag _ more (fun hnil => h0 (by rw [hnil]; rfl)) (Nat.zero_add _)

/-- From the first byte on: the header's fields, the payload and the running check over them. -/
theorem runAll_afterSync (kind tag lo hi : Byte) {payload : List Byte} (more : List Byte)
    (hn : leNat [lo, hi] = payload.length) (hp : payload.length ≤ Config.payloadLimit) :
    runAll (linkBytes (kind :: tag :: lo :: hi :: (payload ++ more))) (s.listen (.header [] crcStart)) =
      runAll (linkBytes more)
        (s.listen (.check kind tag payload (crcOf (kind :: tag :: lo :: hi :: payload)) none)) := by
  rw [runAll_linkBytes_cons h _ (next := .header [kind] _) rfl, runAll_linkBytes_cons h _ (next := .header [kind, tag] _) rfl,
    runAll_linkBytes_cons h _ (next := .header [kind, tag, lo] _) rfl, runAll_body h kind tag lo hi _ more hn hp]
  rfl

end

/-- A byte taken in HUNTING begins a frame. -/
theorem runAll_sync {s : State} (h : s.listening) (bytes : List Byte) :
    runAll (linkBytes (syncByte :: bytes)) s = runAll (linkBytes bytes) (s.listen (.header [] crcStart)) :=
  runAll_cons (inService_ends (s := s) h.1.1 (receiveByte_hunting_sync h.2.1) (h.1.listen _).atRest)

/-- The two CHECK bytes that match have the frame judged as its row has it. -/
theorem runAll_check {s : State} (h : s.listening) (kind tag : Byte) {payload : List Byte} (crc : BitVec 16)
    (hp : payload.length ≤ Config.payloadLimit) :
    runAll (linkBytes (checkBytes crc)) (s.listen (.check kind tag payload crc none)) =
      inService (deliver kind tag payload) s := by
  obtain ⟨hserving, hx, hg, -, -⟩ := h
  have hroom : s.lnk.requests.length < Config.requestQueueSize := by rw [hserving.2.2.1]; decide
  have hdeliver : deliver kind tag payload s = judgeGood { kind := kind, tag := tag, payload := payload } s := by
    simp only [deliver, hx, if_neg (Nat.not_lt.mpr hp)]
  have hjudged (rx : Receiver) : judgeGood { kind := kind, tag := tag, payload := payload } (s.listen rx) =
      judgeGood { kind := kind, tag := tag, payload := payload } s := by
    rw [judgeGood, judgeGood, if_pos hroom]
    exact if_pos hroom
  obtain ⟨high, low, hcheck⟩ : ∃ high low, checkBytes crc = [high, low] := ⟨_, _, rfl⟩
  have hlast : receiveByte low (s.listen (.check kind tag payload crc (some high))) = deliver kind tag payload s :=
    (if_pos hcheck.symm).trans ((hjudged _).trans hdeliver.symm)
  have hrow : inService (receiveByte low) (s.listen (.check kind tag payload crc (some high))) =
      inService (deliver kind tag payload) s := by
    simp only [inService, State.listen_hold, hserving.1, hlast, Option.isSome_none, Bool.false_eq_true, if_false]
  rw [hcheck, runAll_linkBytes_cons hserving [low] (next := .check kind tag payload crc (some high)) rfl]
  obtain ⟨t, ht⟩ : ∃ t, inService (deliver kind tag payload) s = .next t := ⟨_, rfl⟩
  rw [ht] at hrow ⊢
  exact runAll_cons hrow

end Sys2Proof.Machine

namespace Sys2Proof.Link

open Sys2Proof.Machine

/-- Settles O4: SYNC, the header's four fields, the payload and the two CHECK bytes, each part of the frame a run of its own. -/
theorem frameBytesAreTheRow : Obligations.FrameBytesAreTheRow := by
  intro s kind tag payload h hp
  have hlength : leNat (leBytes 2 payload.length) = payload.length := leNat_leBytes 2 _ (by omega)
  change runAll (linkBytes (syncByte :: kind :: tag :: _ :: _ :: (payload ++ checkBytes _))) s =
    inService (deliver kind tag payload) s
  rw [runAll_sync h, runAll_afterSync h.1 kind tag _ _ _ hlength hp]
  exact runAll_check h kind tag _ hp

end Sys2Proof.Link
end

section
/-! PROOFS. What a request is refused with before its own chapter is consulted, IDENT, and RESET (R162, R166, R167, R172). -/

namespace Sys2Proof.Machine

/-! ## The generic checks (R162, Tables LXVII to LXIX) -/

/-- A KIND names no request just when it is none of the request codes. -/
theorem ofCode_eq_none_iff (kind : Byte) : Request.ofCode kind = none ↔ kind ∉ Request.all.map Request.code := by
  simp [Request.ofCode, List.find?_eq_none]

/-- A frame of a listening part whose KIND is no request code. -/
theorem inService_deliver_unknown {s : State} (h : s.listening) {kind : Byte} (tag : Byte) {p : List Byte}
    (hp : p.length ≤ Config.payloadLimit) (hk : Request.ofCode kind = none) :
    inService (deliver kind tag p) s = .next (s.withReply tag (.refused kind .unknownKind 0)).sends := by
  refine inService_deliver_rests s h kind tag p hp _ ?_ (h.rests_withReply _ _)
  simp only [processFrame, hk, State.refuse_eq_withReply]

/-- FAULTED refuses every request but five (R181). -/
theorem refusedByState_faulted {r : Request} (h : r ∉ [Request.ident, .readStatus, .reset, .clearFault, .loadTable]) :
    refusedByState r .faulted = some .faulted := by
  cases r with
  | ident | readStatus | reset | clearFault | loadTable => exact absurd h (by decide)
  | _ => rfl

/-- CALIBRATING, RUNNING and STOPPING refuse the requests that STOPPED alone takes, and LOAD_TABLE (R172). -/
theorem refusedByState_busy {r : Request} {st : Inspection} (hst : st ∈ [Inspection.calibrating, .running, .stopping])
    (hr : r ∈ [Request.setHead, .setEncoder, .setSpot, .setStreak, .setClips, .calibrate, .start, .loadTable]) :
    refusedByState r st = some .busy := by
  have hall : ∀ st ∈ [Inspection.calibrating, .running, .stopping],
      ∀ r ∈ [Request.setHead, .setEncoder, .setSpot, .setStreak, .setClips, .calibrate, .start, .loadTable],
        refusedByState r st = some .busy := by decide
  exact hall st hst r hr

/-- STOPPED takes every request. -/
theorem refusedByState_stopped (r : Request) : refusedByState r .stopped = none := by cases r <;> rfl

/-- The lengths that Table LXIX gives to the requests other than LOAD_TABLE. -/
def statedLengths : List (Request × Nat) :=
  [(.ident, 0), (.readStatus, 0), (.reset, 0), (.clearFault, 0), (.start, 0), (.stop, 0), (.splice, 0), (.listTracks, 0),
    (.calibrate, 8), (.setHead, 36), (.setEncoder, 8), (.setSpot, 13), (.setStreak, 11), (.setClips, 5), (.setLane, 22),
    (.armLane, 2), (.readTable, 2), (.setPriority, 2), (.setFaultAction, 2), (.setAttention, 2), (.clearLane, 1),
    (.readTrack, 1), (.releaseTrack, 1), (.readClip, 4)]

theorem lengthOk_of_stated {r : Request} {n : Nat} (h : (r, n) ∈ statedLengths) (p : List Byte) :
    r.lengthOk p = (p.length == n) := by
  have hall : ∀ e ∈ statedLengths, e.1 ≠ .loadTable ∧ e.1.fieldWidths.sum = e.2 := by decide
  obtain ⟨hr, hn⟩ := hall (r, n) h
  rw [lengthOk_of_ne_loadTable hr, hn]

/-- A LOAD_TABLE that has no table field, or not the length that its table field asks for. -/
theorem lengthOk_loadTable_false {p : List Byte}
    (h : p = [] ∨ (p.head? = some 0 ∧ p.length ≠ 258) ∨ (p.head? = some 1 ∧ p.length ≠ 514)) :
    Request.loadTable.lengthOk p = false := by
  cases p with
  | nil => rfl
  | cons t rest =>
    simp only [List.head?_cons, Option.some.injEq, List.length_cons, reduceCtorEq, false_or] at h
    rcases h with ⟨rfl, hl⟩ | ⟨rfl, hl⟩
    · simpa [Request.lengthOk] using hl
    · simpa [Request.lengthOk] using hl

/-! ## RESET (R166) -/

/-- The DONE is queued, the mark set, and the receiver HELD; the reject hold of a listening part is empty already. -/
theorem handleReset_eq {s : State} (tag : Byte) (hj : s.lnk.rejectHold = none) (hg : s.lnk.gapExpiry = none) :
    handleReset tag s =
      { s with
        lnk := { s.lnk with
          rx := .held, resetPending := true, replies := s.lnk.replies ++ [{ tag := tag, body := .done .reset }] } } := by
  simp only [handleReset, State.setRx, State.done, State.reply, hj, hg]

end Sys2Proof.Machine

namespace Sys2Proof.Link

open Sys2Proof.Machine

/-- Settles O6: step 1 of the generic checks. -/
theorem unknownKindRefused : Obligations.UnknownKindRefused :=
  fun _ kind tag _ h hp hk => inService_deliver_unknown h tag hp ((ofCode_eq_none_iff kind).mpr hk)

/-- Settles O7: steps 2 and 3 of the generic checks. -/
theorem genericChecks : Obligations.GenericChecks := by
  refine ⟨fun s r tag p h hp => ⟨fun hs hr => ?_, fun hs hr => ?_⟩,
    fun s tag p h hs hp => ⟨fun r n hr hn => ?_, fun hl => ?_⟩⟩
  · exact exec_row_refusedByState h r tag hp (hs ▸ refusedByState_faulted hr)
  · exact exec_row_refusedByState h r tag hp (refusedByState_busy hs hr)
  · exact exec_row_badLength h r tag hp (hs ▸ refusedByState_stopped r) (by rw [lengthOk_of_stated hr]; simpa using hn)
  · exact exec_row_badLength h .loadTable tag hp (hs ▸ refusedByState_stopped .loadTable) (lengthOk_loadTable_false hl)

/-- Settles O8: no inspection state refuses IDENT, and its twelve items are laid out in order. -/
theorem identAnswered : Obligations.IdentAnswered :=
  ⟨fun _ tag h => exec_row_handled h .ident tag (Nat.zero_le _) rfl rfl rfl (h.rests_withReply _ _), by decide⟩

/-- Settles O13: the request's own effect leaves the part at rest; the boundary that ends its DONE is the reset. -/
theorem resetRequest : Obligations.ResetRequest := by
  refine fun s tag => ⟨fun h => ?_, fun hh hx => ?_⟩
  · have hlistens := h
    obtain ⟨⟨-, hd, hreq, hi, hj, -⟩, -, hg, -, -⟩ := h
    exact exec_row_handled hlistens .reset tag (Nat.zero_le _) rfl rfl (handleReset_eq tag hj hg)
      ⟨State.nothingDue_congr hd rfl rfl rfl rfl, hj, claimant_none _ hreq hi⟩
  · have he : frameBoundary s = resetAll .request s := by rw [frameBoundary, hx]; rfl
    exact inService_ends hh he (resetAll_atRest .request s)

end Sys2Proof.Link
end

section
/-! PROOFS. A request to a part that is free is answered once: what its block makes of the link, and how the event of its row ends
(R161, R163, R165). -/

namespace Sys2Proof.Machine

/-! ## The answer of a request's block (R163) -/

/-- The answer to a request: one reply with its TAG, given to a state whose link is as it was. -/
def State.answers (l : Lnk) (tag : Byte) (t : State) : Prop :=
  ∃ u body, t = State.reply u { tag := tag, body := body } ∧ u.lnk = l

theorem answers_reply {l : Lnk} {u : State} (h : u.lnk = l) (tag : Byte) (body : ReplyBody) :
    (u.reply { tag := tag, body := body }).answers l tag := ⟨u, body, rfl, h⟩

/-- With no request in progress the link is no part of what an event posts, or of what a procedure does. -/
theorem lnk_keptByEvents {l : Lnk} (hl : l.inProgress = none) : KeptByEvents fun s => s.lnk = l :=
  keptByEvents_link (L := (· = l)) fun s d h => by rw [finishRequest_none d (h ▸ hl), h]

section
variable {l : Lnk} (hl : l.inProgress = none) {s : State} (h : s.lnk = l) (tag : Byte) (f : List Nat)
include h

/-- The requests that change settings, and those that change nothing. -/
theorem answers_settings {r : Request} (p : List Byte)
    (hr : r ∉ [.reset, .clearFault, .start, .stop, .calibrate, .setHead, .readTable, .readTrack, .readClip, .releaseTrack,
      .listTracks]) :
    (handle r tag p s).answers l tag := by
  cases r with
  | ident | readStatus | splice => exact ⟨_, _, rfl, h⟩
  | setEncoder | setSpot | setStreak | setClips | loadTable | setPriority | setFaultAction | setAttention | setLane
  | armLane | clearLane =>
    simp only [handle, handleSetEncoder, handleSetSpot, handleSetStreak, handleSetClips, handleLoadTable, handleSetPriority,
      handleSetFaultAction, handleSetAttention, handleSetLane, handleArmLane, handleClearLane]
    repeat' split
    all_goals exact ⟨_, _, rfl, h⟩
  | _ => exact absurd hr (by decide)

include hl

theorem answers_handleStart : (handleStart tag s).answers l tag := by
  simp only [handleStart]
  split
  · exact answers_reply ((lnk_stable hl).enterState .running s.startRun h) tag _
  · exact answers_reply h tag _

theorem answers_handleStop (hs : s.ict.state ≠ .running) : (handleStop tag s).answers l tag := by
  have hended : (stopCalibration s).lnk = l :=
    unlessFaulted_keeps (P := fun u => u.lnk = l) _ _ ((lnk_stable hl).abortCalibration s h)
      fun hu => (lnk_stable hl).enterState .stopped { abortCalibration s with ict := _ } hu
  rw [handleStop]
  split
  · next hr => exact absurd hr hs
  · exact answers_reply hended tag _
  all_goals exact answers_reply h tag _

theorem answers_handleClearFault : (handleClearFault tag s).answers l tag := by
  refine answers_reply ?_ tag _
  split
  · exact (lnk_stable hl).enterState .stopped s.slotsDiscarded h
  · exact h

theorem answers_handleCalibrate : (handleCalibrate tag f s).answers l tag := by
  have hbegun (r : CalRecord) : (startCalibration r s).lnk = l := (lnk_stable hl).enterState .calibrating _ h
  simp only [handleCalibrate]
  split
  · exact answers_reply h tag _
  · split
    · exact answers_reply (hbegun _) tag _
    · exact answers_reply h tag _

theorem answers_handleSetHead : (handleSetHead tag f s).answers l tag := by
  have hloaded (lampSet lampClear : Nat) (heads : List HeadSettings) : (loadHeads lampSet lampClear heads s).lnk = l :=
    foldl_keeps (P := fun u => u.lnk = l) _ (fun u id => (lnk_stable hl).returnToNormal id u) _ _ h
  simp only [handleSetHead]
  split
  · exact answers_reply h tag _
  · split
    · exact answers_reply (hloaded _ _ _) tag _
    · exact answers_reply h tag _

theorem answers_handleReadTable : (handleReadTable tag f s).answers l tag := by
  have hread := (lnk_keptByEvents hl).readPageWords
  simp only [handleReadTable]
  split
  · exact answers_reply h tag _
  · split
    · refine answers_reply ?_ tag _
      split
      · exact hread _ _ _ h
      · exact (lnk_stable hl).memoryFatal _ (hread _ _ _ h)
    · exact answers_reply h tag _

theorem answers_handleReadTrack : (handleReadTrack tag f s).answers l tag := by
  have hread := (lnk_stable hl).readRecord (f.getD 0 0) s h
  simp only [handleReadTrack]
  repeat' split
  · exact answers_reply h tag _
  all_goals exact answers_reply hread tag _

theorem answers_handleReleaseTrack : (handleReleaseTrack tag f s).answers l tag := by
  have hread := (lnk_stable hl).readRecord (f.getD 0 0) s h
  simp only [handleReleaseTrack]
  repeat' split
  · exact answers_reply h tag _
  · exact answers_reply hread tag _
  · exact answers_reply (u := State.freeTrack _ _) hread tag _
  · exact answers_reply hread tag _

theorem answers_handleListTracks : (handleListTracks tag s).answers l tag := by
  have hread : ((List.range 64).foldl readAny s).lnk = l :=
    foldl_keeps (P := fun u => u.lnk = l) readAny (fun u id hu =>
      unlessFaulted_keeps (P := fun u => u.lnk = l) _ u hu ((lnk_stable hl).readRecord id u)) _ s h
  simp only [handleListTracks]
  split <;> exact answers_reply hread tag _

theorem answers_handleReadClip : (handleReadClip tag f s).answers l tag := by
  have hwalk := (lnk_keptByEvents hl).walkClip (s.track (f.getD 0 0)).clip (f.getD 1 0) (f.getD 2 0) s h
  simp only [handleReadClip]
  repeat' split
  · exact answers_reply h tag _
  · exact answers_reply h tag _
  · exact answers_reply ((still_markDamaged _ _ _).link.trans hwalk) tag _

/-- Every request but RESET, and but a STOP in RUNNING, is answered at once. -/
theorem answers_handle (r : Request) (p : List Byte) (hr : r ≠ .reset) (hs : r = .stop → s.ict.state ≠ .running) :
    (handle r tag p s).answers l tag := by
  cases r with
  | reset => exact absurd rfl hr
  | clearFault => exact answers_handleClearFault hl h tag
  | start => exact answers_handleStart hl h tag
  | stop => exact answers_handleStop hl h tag (hs rfl)
  | calibrate => exact answers_handleCalibrate hl h tag _
  | setHead => exact answers_handleSetHead hl h tag _
  | readTable => exact answers_handleReadTable hl h tag _
  | readTrack => exact answers_handleReadTrack hl h tag _
  | readClip => exact answers_handleReadClip hl h tag _
  | releaseTrack => exact answers_handleReleaseTrack hl h tag _
  | listTracks => exact answers_handleListTracks hl h tag
  | _ => exact answers_settings h tag p (by decide)

end

/-! ## One reply, or a STOP in progress (R161, R173) -/

/-- What becomes of a link that takes a request: one reply more, with its TAG and with no request in progress; or, for a request
that may wait, the request in progress with no reply yet. -/
def Lnk.answeredOnce (l : Lnk) (tag : Byte) (waits : Prop) (k : Lnk) : Prop :=
  (∃ body, k.replies = l.replies ++ [{ tag := tag, body := body }] ∧ k.inProgress = none) ∨
    (waits ∧ k.replies = l.replies ∧ k.inProgress = some { tag := tag, reply := none })

section
variable {l : Lnk} {tag : Byte} {waits : Prop}

/-- The reply of the request in progress is the one reply, when the buffer has a place for it. -/
theorem answeredOnce_keptByEvents (hl : l.replies.length < Config.replyBufferSize) :
    KeptByEvents fun s => l.answeredOnce tag waits s.lnk :=
  keptByEvents_link fun s d h => by
    rcases h with ⟨body, hr, hi⟩ | ⟨hw, hr, hi⟩
    · rw [finishRequest_none d hi]
      exact .inl ⟨body, hr, hi⟩
    · rw [finishRequest_enters d hi (hr ▸ hl)]
      exact .inl ⟨_, congrArg (· ++ _) hr, rfl⟩

theorem State.answers.once {s : State} (h : s.answers l tag) (hl : l.inProgress = none) : l.answeredOnce tag waits s.lnk := by
  obtain ⟨u, body, rfl, rfl⟩ := h
  exact .inl ⟨body, rfl, hl⟩

variable {s : State} (hi : s.lnk.inProgress = none) (hl : s.lnk.replies.length < Config.replyBufferSize)
include hi hl

theorem handle_answeredOnce (r : Request) (tag : Byte) (p : List Byte) :
    s.lnk.answeredOnce tag (r = .stop) (handle r tag p s).lnk := by
  by_cases hr : r = .reset
  · subst hr
    exact .inl ⟨_, rfl, hi⟩
  by_cases hs : r = .stop ∧ s.ict.state = .running
  · obtain ⟨rfl, hrun⟩ := hs
    have hstop : handle .stop tag p s =
        beginStop .request { s with lnk := { s.lnk with inProgress := some { tag := tag, reply := none } } } := by
      simp only [handle, handleStop, hrun]
    rw [hstop]
    exact (answeredOnce_keptByEvents hl).beginStop .request _ hrun (.inr ⟨rfl, rfl, rfl⟩)
  · exact (answers_handle hi rfl tag r p hr fun h1 h2 => hs ⟨h1, h2⟩).once hi

theorem processFrame_answeredOnce (r : Request) (tag : Byte) (p : List Byte) :
    s.lnk.answeredOnce tag (r = .stop) (processFrame { kind := r.code, tag := tag, payload := p } s).lnk := by
  simp only [processFrame, ofCode_code]
  repeat' split
  · exact (answers_reply rfl tag _).once hi
  · exact handle_answeredOnce hi hl r tag p
  · exact (answers_reply rfl tag _).once hi

end

/-- A link that has answered, or that has the STOP in progress, claims no place of the reply buffer. -/
theorem Lnk.answeredOnce.claimant {l k : Lnk} {tag : Byte} {waits : Prop} (h : l.answeredOnce tag waits k)
    (hq : k.requests = []) : k.claimant = none := by
  rcases h with ⟨_, _, hi⟩ | ⟨_, _, hi⟩
  · exact claimant_none k hq hi
  · simp only [Lnk.claimant, hi]

/-! ## How the event of a row ends (R159, R165) -/

/-- A row to a listening part: the request is answered once, and a frame may begin. -/
theorem exec_row_answeredOnce {s : State} (h : s.listening) (r : Request) (tag : Byte) (p : List Byte) :
    ∃ u : State, exec (r.row tag p) s = .next u.sends ∧ u.lnk.tx = s.lnk.tx ∧ s.lnk.answeredOnce tag (r = .stop) u.lnk := by
  rw [exec_row]
  have hlistens := h
  obtain ⟨hserving, hx, -, hl, -⟩ := h
  have hi : s.lnk.inProgress = none := hserving.2.2.2.1
  by_cases hp : p.length ≤ Config.payloadLimit
  · have hcarries := carries_finishProcedures
      (carries_processFrame (State.carries_self hi) { kind := r.code, tag := tag, payload := p })
    have hanswered := (answeredOnce_keptByEvents hl).finishProcedures _ (processFrame_answeredOnce hi hl r tag p)
    have hrow := inService_deliver s hlistens r.code tag p hp
    generalize finishProcedures (processFrame { kind := r.code, tag := tag, payload := p } s) = u at hcarries hanswered hrow
    have hheld : u.lnk.rejectHold = none := hcarries.hold.elim (·.trans hserving.2.2.2.2.1) id
    have hclaims : u.lnk.claimant = none := hanswered.claimant (hcarries.requests.trans hserving.2.2.1)
    rw [serve_of_idle 3 u hheld hclaims, serveAll_of_unwanted _ fun _ => ⟨by simp [hclaims], by simp [hheld]⟩] at hrow
    exact ⟨u, hrow, hcarries.tx, hanswered⟩
  · have he : deliver r.code tag p s = rejectFrame .length tag s := by
      simp only [deliver, hx, if_pos (Nat.lt_of_not_le hp)]
    exact ⟨_, inService_rejects (event := deliver r.code tag p) hserving he hl, rfl, .inl ⟨_, rfl, hi⟩⟩

/-- The reply, if one, that has begun where the transmitter was IDLE before. -/
def begunReply (before after : Option Outgoing) : List Reply :=
  match before, after with
  | none, some (.reply r) => [r]
  | _, _ => []

/-- The reply that begins is the oldest of the buffer: together they are the replies of before. -/
theorem begunReply_append (s : State) : begunReply s.lnk.tx s.sends.lnk.tx ++ s.sends.lnk.replies = s.lnk.replies := by
  by_cases hx : s.lnk.tx = none
  · rcases s.sends_cases with he | ⟨n, ⟨r, rest, hr, he⟩ | ⟨v, -, he⟩⟩ <;> rw [he, hx]
    · rfl
    · exact hr.symm
    · rfl
  · obtain ⟨o, ho⟩ := Option.ne_none_iff_exists'.mp hx
    rw [s.sends_of_sending hx, ho]
    rfl

theorem sends_inProgress (s : State) : s.sends.lnk.inProgress = s.lnk.inProgress := by
  rcases s.sends_cases with he | ⟨n, ⟨r, rest, -, he⟩ | ⟨v, -, he⟩⟩ <;> rw [he] <;> rfl

end Sys2Proof.Machine

namespace Sys2Proof.Link

open Sys2Proof.Machine

/-- Settles O5: the request is answered once before a frame begins, and the frame that begins takes the oldest reply of the
buffer or none. -/
theorem everyRequestAnsweredOnce : Obligations.EveryRequestAnsweredOnce := by
  intro s r tag p h
  obtain ⟨u, hrow, hx, hanswered⟩ := exec_row_answeredOnce h r tag p
  have hreplies := begunReply_append u
  rw [hx] at hreplies
  refine ⟨u.sends, hrow, fun hs => ?_, ?_⟩
  · rw [u.sends_of_sending (hx ▸ hs), hx]
  · rw [sends_inProgress]
    rcases hanswered with ⟨body, hr, hi⟩ | ⟨rfl, hr, hi⟩
    · exact .inl ⟨body, hreplies.trans hr, hi⟩
    · exact .inr ⟨rfl, hreplies.trans hr, hi⟩

end Sys2Proof.Link
end

section
/-! PROOFS. The resets, SET_FAULT_ACTION, and CLEAR_FAULT with the slots it discards (R32, R177, R179, R181). -/

namespace Sys2Proof.Machine

/-! ## Resets (R177) -/

/-- What the resets other than the RESET request leave: everything at its reset value but the clock, the pins, the counter of free
choices and the queue of commands. -/
def State.freshFrom (s : State) (cause : ResetCause) (hold : Option ResetCause) : State :=
  { State.reset with
    hold := hold, now := s.now, pins := s.pins, choices := s.choices, pending := s.pending
    enc := Enc.reset s.pins.encA s.pins.encB s.now, ict := { State.reset.ict with resetCause := cause } }

theorem resetAll_eq_freshFrom (s : State) {cause : ResetCause} (h : cause ≠ .request) :
    resetAll cause s = s.freshFrom cause none := by
  simp only [resetAll, decide_eq_false h]
  rfl

/-- What a held part still takes of a command: the clock and the levels at the pins (log 18). -/
def State.clocked (s : State) (now : Nat) (pins : Pins) : State :=
  { s with now := now, pins := { pins with ltrigPulses := s.pins.ltrigPulses } }

/-- A held part loses every event but the resets. -/
theorem exec_held {s : State} (h : s.hold.isSome = true) {i : Instr}
    (hi : i ∉ [Instr.powerOnReset, .pinResetAssert, .pinResetEnd]) : ∃ now pins, exec i s = .next (s.clocked now pins) := by
  have still {event : State → State} : ∃ now pins, inService event s = .next (s.clocked now pins) :=
    ⟨s.now, s.pins, inService_held event s h⟩
  have later {event : State → State} (e : Nat) :
      ∃ now pins, inService event (s.elapse e) = .next (s.clocked now pins) :=
    ⟨s.now + e, s.pins, inService_held event _ h⟩
  cases i with
  | powerOnReset | pinResetAssert | pinResetEnd => exact absurd hi (by simp)
  | linkByte b e => exact later e
  | readStatus tag p e => exact later e
  | encoderEdge ch level e =>
    have hlost : exec (.encoderEdge ch level e) s = .next { s.elapse e with pins := s.pins.set ch level } :=
      inService_held (edge ch level) { s.elapse e with pins := s.pins.set ch level } h
    refine ⟨s.now + e, s.pins.set ch level, hlost.trans ?_⟩
    cases ch <;> rfl
  | spliceIn rising => exact ⟨s.now, { s.pins with spliceIn := rising }, inService_held _ _ h⟩
  | _ => exact still

/-! ## SET_FAULT_ACTION (R179) -/

theorem Source.ofCode_eq_none {c : Nat} (h : 8 < c) : Source.ofCode c = none :=
  List.getElem?_eq_none h

theorem Action.ofCode_eq_none {c : Nat} (h : 3 < c) : Action.ofCode c = none :=
  List.getElem?_eq_none h

/-- The codes 0 to 8 are those of the settable sources. -/
theorem Source.exists_ofCode {c : Nat} (h : c ≤ 8) : ∃ src, Source.ofCode c = some src :=
  ⟨_, List.getElem?_eq_getElem (Nat.lt_succ_of_le h)⟩

section
variable (s : State) (tag : Byte) {c a : Nat}

theorem handleSetFaultAction_noSource (h : Source.ofCode c = none) :
    handleSetFaultAction tag [c, a] s = s.badValue tag .setFaultAction 0 := by
  simp only [handleSetFaultAction, List.getD_cons_zero, h]

variable {src : Source} (hs : Source.ofCode c = some src)
include hs

theorem handleSetFaultAction_noAction (h : Action.ofCode a = none) :
    handleSetFaultAction tag [c, a] s = s.badValue tag .setFaultAction 1 := by
  simp only [handleSetFaultAction, List.getD_cons_zero, List.getD_cons_succ, hs, h]

theorem handleSetFaultAction_taken {act : Action} (h : Action.ofCode a = some act) :
    handleSetFaultAction tag [c, a] s =
      State.withReply { s with ict := { s.ict with actions := s.ict.actions.set src.code act } } tag
        (.done (.setFaultAction src act)) := by
  simp only [handleSetFaultAction, List.getD_cons_zero, List.getD_cons_succ, hs, h]
  rfl

end

/-! ## CLEAR_FAULT and the slots it discards (R32, R181) -/

theorem handleClearFault_notFaulted {s : State} (tag : Byte) (h : s.ict.state ≠ .faulted) :
    handleClearFault tag s = s.withReply tag (.done (.clearFault s.ict.state)) := by
  simp only [handleClearFault, if_neg h]
  rfl

theorem handleClearFault_faulted {s : State} (tag : Byte) (h : s.ict.state = .faulted) (hr : s.room .state) :
    handleClearFault tag s =
      State.withReply
        (State.withReport { s.slotsDiscarded with ict := { s.ict with state := .stopped } } (.state .stopped s.ict.lastStop))
        tag (.done (.clearFault .stopped)) := by
  have hentered : enterState .stopped s.slotsDiscarded = _ := enterState_room s.slotsDiscarded .stopped hr
  simp only [handleClearFault, if_pos h]
  exact congrArg (fun t : State => t.done tag (.clearFault t.ict.state)) hentered

/-- A head after a discard: its delivery alone is changed. -/
theorem Las.head_discardSlots (l : Las) (cond : Slot → Bool) (h : Nat) :
    (l.discardSlots cond).head h =
      { l.head h with delivery := (l.head h).delivery.discard (fun j => cond (l.slot j)) } := by
  simp only [head, discardSlots, List.getD, List.getElem?_map]
  cases l.heads[h]? <;> rfl

/-- Among the slots that there are a discard blanks those of its condition, whatever it says of a FREE one. -/
theorem Las.slot_discardSlots_of_lt (l : Las) (cond : Slot → Bool) {i : Nat} (hi : i < l.slots.length) :
    (l.discardSlots cond).slot i = if cond (l.slot i) then Slot.blank else l.slot i := by
  simp [slot, discardSlots, List.getD, hi]

end Sys2Proof.Machine

namespace Sys2Proof.Faults

open Sys2Proof.Machine

/-- Settles O14: a reset that is not the RESET request keeps neither tables nor geometry, and a held part loses every other event. -/
theorem powerOnAndPinReset : Obligations.PowerOnAndPinReset := by
  intro s c
  have hpower : resetAll .powerOn s = s.freshFrom .powerOn none := resetAll_eq_freshFrom s (by decide)
  have hpin : resetAll .pin s = s.freshFrom .pin none := resetAll_eq_freshFrom s (by decide)
  refine ⟨fun h => ?_, fun h => ?_, fun h => ?_, fun h hc => ?_, fun h i hi => exec_held (Option.isSome_iff_ne_none.mpr h) hi⟩
  · change Host.Outcome.next (powerOn s) = _
    rw [powerOn, h]
    exact congrArg _ hpower
  · change Host.Outcome.next (powerOn s) = _
    rw [powerOn, h]
    exact congrArg (fun t : State => Host.Outcome.next { t with hold := some .powerOn }) hpower
  · change Host.Outcome.next (pinAssert s) = _
    rw [pinAssert, h]
    exact congrArg (fun t : State => Host.Outcome.next { t with hold := some .pin }) hpin
  · change Host.Outcome.next (pinEnd s) = _
    rw [pinEnd, h]
    exact congrArg _ (resetAll_eq_freshFrom s hc)

/-- Settles O18: outside FAULTED nothing but the answer; in FAULTED the slots go and STOPPED is entered. What a discard makes of a slot
and of a delivery is read off slot by slot and head by head. -/
theorem clearFault : Obligations.ClearFault := by
  refine ⟨fun s tag h => ⟨fun hs => ?_, fun hs hr => ?_⟩, fun l cond h8 _ => ⟨fun i hi => ?_, fun h _ => ?_⟩⟩
  · exact exec_row_handled h .clearFault tag (Nat.zero_le _) rfl rfl (handleClearFault_notFaulted tag hs) (h.rests_withReply _ _)
  · exact exec_row_handled h .clearFault tag (Nat.zero_le _) rfl rfl (handleClearFault_faulted tag hs hr)
      (h.rests_stopped (by rfl) (by rfl) _ _)
  · exact l.slot_discardSlots_of_lt cond (h8 ▸ hi)
  · rw [l.head_discardSlots cond h]
    exact ⟨rfl, rfl, rfl, fun j _ => ⟨fun hd => by rw [hd]; rfl, fun p r hd => by rw [hd]; rfl, fun hd => by rw [hd]; rfl⟩,
      fun hd => by rw [hd]; rfl⟩

/-- Settles O19: the source code is checked first, then the action code; nine sources by four actions are left. -/
theorem setFaultAction : Obligations.SetFaultAction := by
  intro s tag c a h hs hc256 ha256
  have hf : fitsWidths Request.setFaultAction.fieldWidths [c, a] := by
    simp only [Request.fieldWidths, fitsWidths_cons_iff, fitsWidths_nil, and_true]
    omega
  have hst : refusedByState .setFaultAction s.ict.state = none := by
    cases hi : s.ict.state with
    | faulted => exact absurd hi hs
    | _ => rfl
  have run {t : State} (ht : handleSetFaultAction tag [c, a] s = t) (hr : t.rests) :
      exec (rowOf .setFaultAction tag [c, a]) s = .next t.sends :=
    exec_rowOf_handled h hst (by decide) tag hf ((congrArg (handleSetFaultAction tag · s) (readFields_fieldBytes hf)).trans ht) hr
  refine ⟨fun hc => ?_, fun hc ha => ?_, fun src act hsrc hact => ?_⟩
  · exact run (handleSetFaultAction_noSource s tag (Source.ofCode_eq_none hc)) (h.rests_withReply _ _)
  · obtain ⟨src, hsrc⟩ := Source.exists_ofCode hc
    exact run (handleSetFaultAction_noAction s tag hsrc (Action.ofCode_eq_none ha)) (h.rests_withReply _ _)
  · have hcodes : ∀ e ∈ [(0, Source.encoderGlitch), (1, .headLate), (2, .headShort), (3, .headUnsolicited), (4, .lineOverrun),
        (5, .runOverflow), (6, .tableFull), (7, .referenceLow), (8, .memoryCorrected)],
        Source.ofCode e.1 = some e.2 ∧ e.2.code = e.1 := by decide
    have hacts : ∀ e ∈ [(0, Action.ignore), (1, .report), (2, .mark), (3, .stop)], Action.ofCode e.1 = some e.2 := by decide
    obtain ⟨hsource, hcode⟩ := hcodes _ hsrc
    have htaken := handleSetFaultAction_taken s tag hsource (hacts _ hact)
    rw [hcode] at htaken
    exact run htaken (h.rests_answered (t := { s with ict := _ }) rfl (State.nothingDue_congr h.rests.1 rfl rfl rfl rfl) _ _)

end Sys2Proof.Faults
end

section
/-! PROOFS. Occurrences that stop a run, and what MEMORY_FATAL drops, frees and enters (R127, R178, R180). -/

namespace Sys2Proof.Machine

/-! ## Room for more than one report -/

/-- A report entered leaves room for one more, where there was room for both. -/
theorem State.room_withReport {s : State} {k : ReportKind} (r : Report) (h : s.rpq.queue.length + 2 ≤ 128)
    (hk : 0 < s.rpq.priorityOf k) : (s.withReport r).room k := by
  refine ⟨?_, hk⟩
  simp only [State.withReport, Rpq.enter, List.length_append, List.length_singleton, Config.reportQueueSize]
  omega

theorem State.room_of_two {s : State} {k : ReportKind} (h : s.rpq.queue.length + 2 ≤ 128) (hk : 0 < s.rpq.priorityOf k) :
    s.room k := ⟨by simp only [Config.reportQueueSize]; omega, hk⟩

/-! ## An occurrence under STOP in RUNNING (R178) -/

/-- What an occurrence does short of a stop, when its FAULT report has room. -/
theorem occur_counted {s : State} (src : Source) (detail line : Option Nat) (h : s.room .fault) :
    occur src detail line s =
      if s.ict.action src = .stop ∧ s.ict.state = .running then beginStop (.fault src) (s.withOccurrence src detail line)
      else s.withOccurrence src detail line := by
  have hposted := post_room { s with ict := s.ict.count src } (.fault src false detail line (s.ict.action src) none) none h
  simp only [occur, occurWith, State.withOccurrence, Bool.and_eq_true, Action.reports_iff, Bool.not_eq_true', beginStop]
  split
  · rw [hposted]
    rfl
  · rfl

theorem State.room_withOccurrence {s : State} {k : ReportKind} (src : Source) (d l : Option Nat)
    (h : s.rpq.queue.length + 2 ≤ 128) (hk : 0 < s.rpq.priorityOf k) : (s.withOccurrence src d l).room k := by
  simp only [State.withOccurrence]
  split
  · exact State.room_withReport (s := { s with ict := _ }) _ h hk
  · exact State.room_of_two h hk

/-! ## MEMORY_FATAL (R180) -/

/-- The part with MEMORY_FATAL counted and latched, and every track dropped. -/
def State.emptied (s : State) : State := State.dropAll { s with ict := s.ict.count .memoryFatal }

theorem memoryFatal_faulted {s : State} (h : s.ict.state = .faulted) : memoryFatal s = s.emptied := if_pos h

/-- The part with every track dropped and the lanes' step taken, as MEMORY_FATAL enters FAULTED. -/
def State.fatalEntered (s : State) : State :=
  { s.dropAll with
    lnc := s.lnc.map Lane.stopStep
    ict := { s.ict with state := .faulted, lastStop := .fault .memoryFatal, limitPending := false } }

/-- The steps of MEMORY_FATAL once a calibration in progress is over. -/
def fatalSteps (s : State) : State :=
  let t := post (.fault .memoryFatal false none none .stop (some s.trk.inUse)) none s.fatalEntered
  let t := post (.state .faulted t.ict.lastStop) none t
  t.finishRequest (.stop t.ict.state t.ict.lastStop)

theorem memoryFatal_steps {s : State} (h : s.ict.state ≠ .faulted) :
    memoryFatal s =
      (abortCalibration (State.releaseLine { s with ict := s.ict.count .memoryFatal })).unlessFaulted fatalSteps :=
  if_neg h

/-- With room for both reports and no request to answer. -/
theorem fatalSteps_room {s : State} (hi : s.lnk.inProgress = none) (hq : s.rpq.queue.length + 2 ≤ 128)
    (hfault : 0 < s.rpq.priorityOf .fault) (hstate : 0 < s.rpq.priorityOf .state) :
    fatalSteps s =
      (s.fatalEntered.withReport (.fault .memoryFatal false none none .stop (some s.trk.inUse))).withReport
        (.state .faulted (.fault .memoryFatal)) := by
  have hfirst : post (.fault .memoryFatal false none none .stop (some s.trk.inUse)) none s.fatalEntered =
      s.fatalEntered.withReport (.fault .memoryFatal false none none .stop (some s.trk.inUse)) :=
    post_room s.fatalEntered _ none (State.room_of_two hq hfault)
  have hsecond := post_room (s.fatalEntered.withReport (.fault .memoryFatal false none none .stop (some s.trk.inUse)))
    (.state .faulted (.fault .memoryFatal)) none (s.fatalEntered.room_withReport _ hq hstate)
  simp only [fatalSteps, hfirst]
  exact (congrArg (State.finishRequest · _) hsecond).trans (finishRequest_none _ hi)

/-- With nothing in progress there is nothing to end before the steps. -/
theorem memoryFatal_quiet {s : State} (hs : s.ict.state ≠ .faulted) (hc : s.ffc.active = false)
    (hp : s.las.processing = none) : memoryFatal s = fatalSteps { s with ict := s.ict.count .memoryFatal } := by
  have hreleased : State.releaseLine { s with ict := s.ict.count .memoryFatal } = { s with ict := s.ict.count .memoryFatal } := by
    simp only [State.releaseLine, hp]
  have hcal : abortCalibration { s with ict := s.ict.count .memoryFatal } = { s with ict := s.ict.count .memoryFatal } := by
    simp only [abortCalibration, abortCalibrationWith, hc, Bool.false_eq_true, if_false]
  rw [memoryFatal_steps hs, hreleased, hcal]
  exact unlessFaulted_eq hs

/-- The line in processing is given up before anything else: outside FAULTED MEMORY_FATAL finds it over. -/
theorem memoryFatal_releaseLine {s : State} (hs : s.ict.state ≠ .faulted) : memoryFatal s = memoryFatal s.releaseLine := by
  have hict : s.releaseLine.ict = s.ict := by
    simp only [State.releaseLine]
    split <;> rfl
  have hcount : State.releaseLine { s.releaseLine with ict := s.releaseLine.ict.count .memoryFatal } =
      State.releaseLine { s with ict := s.ict.count .memoryFatal } := by
    cases hp : s.las.processing <;> simp only [State.releaseLine, hp]
  rw [memoryFatal_steps hs, memoryFatal_steps (hict ▸ hs), hcount]

/-- A slot is FREE, and no line is in processing. -/
def State.givenUp (i : Nat) (s : State) : Prop := (s.las.slot i).state = .free ∧ s.las.processing = none

/-- Nothing that a post gives rise to claims a slot or hands a line over. -/
theorem givenUp_stable (i : Nat) : Stable (State.givenUp i) where
  take _ _ _ h := h
  count _ _ h := h
  stop _ _ _ h := h
  words _ _ _ h := h
  free _ _ _ h := h
  release s h := by simpa only [State.releaseLine, h.2] using h
  abort s h := by
    refine ⟨?_, h.2⟩
    refine (congrArg Slot.state (s.las.slot_discardSlots _ rfl i)).trans ?_
    split
    · rfl
    · exact h.1
  drop _ h := h
  lanes _ h := h
  fatal _ h := h
  finish s d h := by
    simp only [State.finishRequest]
    repeat' split
    all_goals exact h

/-- The slot of a line given up is FREE. -/
theorem givenUp_releaseLine {s : State} {p : Processing} (hp : s.las.processing = some p)
    (hl : p.slot < s.las.slots.length) : s.releaseLine.givenUp p.slot := by
  rw [releaseLine_eq hp]
  exact ⟨by simp [Las.slot, List.getD, hl, Slot.blank], rfl⟩

end Sys2Proof.Machine

namespace Sys2Proof.Faults

open Sys2Proof.Machine

/-- Settles O20: an occurrence is taken as the ladder has it, and under STOP in RUNNING the stop follows its report. -/
theorem occurrenceLadder : Obligations.OccurrenceLadder := by
  intro s src detail line _
  refine ⟨occur_of_takes s src detail line, fun ha hs hq hfault hstate => ?_⟩
  rw [occur_counted src detail line (State.room_of_two hq hfault), if_pos ⟨ha, hs⟩]
  exact beginStop_room _ _ (State.room_withOccurrence src detail line hq hstate)

/-- Settles O21: in FAULTED the count and the drop; outside it the line in processing is given up first and the steps follow, whose
posts leave its slot FREE. -/
theorem memoryFatalDropsAll : Obligations.MemoryFatalDropsAll := by
  intro s
  refine ⟨memoryFatal_faulted, fun hs hc hi hp hq hfault hstate => ?_, fun p hs hp hl => ?_⟩
  · exact (memoryFatal_quiet hs hc hp).trans (fatalSteps_room hi hq hfault hstate)
  · have hgiven : (memoryFatal s).givenUp p.slot := by
      rw [memoryFatal_releaseLine hs]
      exact (givenUp_stable p.slot).memoryFatal _ (givenUp_releaseLine hp hl)
    exact ⟨hgiven.1, hgiven.2, (memoryFatal_shut s).1⟩

end Sys2Proof.Faults
end

section
/-! PROOFS. READ_STATUS, block by block, and START with the reasons that stand against it (R172, R182). -/

namespace Sys2Proof.Machine

/-! ## READ_STATUS (R182) -/

/-- One source's items, with the sets and flags of REFERENCE_LOW and TABLE_FULL written as conditions. -/
theorem sourceStatus_eq (s : State) (src : Source) :
    sourceStatus s src =
      { action := if src = .memoryFatal then none else some (s.ict.action src)
        liveHeads := if src = .referenceLow then some s.las.lowHeads else none
        live := if src = .tableFull then some (decide (s.trk.freeList = [])) else none
        latch := s.ict.latches.getD src.code false, count := s.ict.counts.getD src.code 0 } := by
  have hfull : s.trk.full = decide (s.trk.freeList = []) := by
    rw [Trk.full, Bool.eq_iff_iff, List.isEmpty_iff, decide_eq_true_iff]
  rw [← hfull]
  cases src <;> rfl

/-- The latches of the sources whose live part is set stay; only REFERENCE_LOW and TABLE_FULL have one. -/
theorem State.live_eq (s : State) (src : Source) :
    s.live src =
      ((src == .referenceLow && !s.las.lowHeads.isEmpty) || (src == .tableFull && s.trk.freeList.isEmpty)) := by
  cases src with
  | referenceLow => exact (Bool.or_false _).symm
  | _ => rfl

theorem encStatus_haltedMs (s : State) :
    (encStatus s).haltedMs =
      if s.enc.web = .halted then some (min ((s.now - s.enc.standstillStart) / 10000) 65535) else none := by
  simp only [encStatus]
  cases s.enc.web <;> rfl

theorem Lane.armed_eq (l : Lane) : l.armed = decide (l.state ≠ .disarmed ∨ l.change = .arm) := by
  cases hs : l.state with
  | disarmed => cases hc : l.change <;> simp [armed, hs, hc]
  | _ => simp [armed, hs]

theorem isSome_eq_decide {α : Type} [DecidableEq α] (o : Option α) : o.isSome = decide (o ≠ none) := by
  cases o <;> rfl

/-- The first line of a run of lines is shown while there is one. -/
theorem shown_of_pos (n : Nat) {α : Type} (a : α) : (if 0 < n then some a else none) = if n = 0 then none else some a := by
  cases n <;> rfl

theorem laneStatus_eq (l : Lane) :
    laneStatus l =
      { configured := decide (l.settings ≠ none), change := l.change, state := l.state
        armed := decide (l.state ≠ .disarmed ∨ l.change = .arm), patchNumber := l.patchNumber, enterRun := l.enterRun
        enterFirst := if l.enterRun = 0 then none else some l.enterFirst
        coated := if l.state = .coated then
            l.patch.map (fun p =>
              { patch := p, leadGuard := l.leadGuard, bareRun := l.bareRun
                bareFirst := if l.bareRun = 0 then none else some l.bareFirst })
          else none } := by
  simp only [laneStatus, Lane.armed_eq, shown_of_pos, isSome_eq_decide]
  cases l.state <;> cases l.patch <;> rfl

/-- A table's validity, over the pages that the width needs. -/
theorem Table.valid_eq (t : Table) (width : Nat) :
    t.valid width = (List.range 32).all (fun p => decide (p * 256 < width → p ∈ t.loaded)) := by
  rw [Bool.eq_iff_iff]
  simp [valid, neededPages]

/-- The OPEN tracks that are tentative, counted among the OPEN ones. -/
theorem trkStatus_tentative (s : State) :
    (trkStatus s).tentative = ((s.trk.slots.filter (fun t => t.state = .open)).filter (·.tentative)).length := by
  simp only [trkStatus, List.filter_filter]
  congr 2
  funext t
  simp [Bool.and_comm]

/-- READ_STATUS to a part that is listening (R154, R182). -/
theorem exec_readStatus {s : State} (h : s.listening) (tag : Byte) :
    exec (.readStatus tag [] 0) s =
      .next ((clearRead s).withReply tag (.done (.readStatus (statusOf s)))).sends :=
  exec_row_handled h .readStatus tag (Nat.zero_le _) rfl rfl rfl
    (h.rests_answered rfl (State.nothingDue_congr h.rests.1 rfl rfl rfl rfl) _ _)

/-- The clock is no part of what a listening part waits for. -/
theorem State.listening.elapse {s : State} (h : s.listening) (e : Nat) : (s.elapse e).listening := by
  obtain ⟨⟨hh, hd, hserving⟩, hl⟩ := h
  exact ⟨⟨hh, State.nothingDue_congr hd rfl rfl rfl rfl, hserving⟩, hl⟩

/-! ## START (R172) -/

/-- What a reason adds to the detail: its bit when it stands. -/
theorem reasonMask_stands {p q : Prop} [Decidable p] {reason : NotReady} {n : Nat} (hpq : p ↔ q)
    (h : q ∧ n = 2 ^ reason.bit ∨ ¬q ∧ n = 0) : reasonMask (if p then [reason] else []) = n := by
  rcases h with ⟨hq, rfl⟩ | ⟨hq, rfl⟩
  · rw [if_pos (hpq.mpr hq)]
    rfl
  · rw [if_neg (mt hpq.mp hq)]
    rfl

theorem reasonMask_fails {p q : Prop} [Decidable p] {reason : NotReady} {n : Nat} (hpq : p ↔ q)
    (h : q ∧ n = 0 ∨ ¬q ∧ n = 2 ^ reason.bit) : reasonMask (if p then [] else [reason]) = n := by
  rw [← ite_not]
  exact reasonMask_stands (not_congr hpq) (by rw [not_not]; exact h.symm)

theorem reasonMask_append (a b : List NotReady) : reasonMask (a ++ b) = reasonMask a + reasonMask b := by
  simp [reasonMask]

theorem Table.valid_iff (t : Table) (width : Nat) : t.valid width = true ↔ ∀ p < 32, p * 256 < width → p ∈ t.loaded := by
  simp only [valid_eq, List.all_eq_true, List.mem_range, decide_eq_true_iff]

theorem any_armed_iff (lanes : List Lane) :
    lanes.any Lane.armed = true ↔ ∃ l ∈ lanes, l.state ≠ .disarmed ∨ l.change = .arm := by
  simp only [List.any_eq_true, Lane.armed_eq, decide_eq_true_iff]

section
variable {s : State} (tag : Byte)

theorem handleStart_refused (h : startReasons s ≠ []) :
    handleStart tag s = s.withReply tag (.refused 0x08 .notReady (reasonMask (startReasons s))) := by
  simp only [handleStart, if_neg h]
  rfl

/-- The blocks made ready, RUNNING entered with its report, and the answer. -/
theorem handleStart_taken (h : startReasons s = []) (hr : s.room .state) :
    handleStart tag s =
      State.withReply
        (State.withReport { s.startRun with ict := { s.startRun.ict with state := .running } } (.state .running s.ict.lastStop))
        tag (.done (.start .running)) := by
  have hentered : enterState .running s.startRun = _ := enterState_room s.startRun .running hr
  simp only [handleStart, if_pos h]
  exact congrArg (fun t : State => t.done tag (.start t.ict.state)) hentered

end

/-- START to a listening part in STOPPED. -/
theorem exec_start {s t : State} (h : s.listening) (hs : s.ict.state = .stopped) (tag : Byte) (ht : handleStart tag s = t)
    (hr : t.rests) : exec (.start tag []) s = .next t.sends :=
  exec_row_handled h .start tag (Nat.zero_le _) (by rw [hs]; rfl) rfl ht hr

end Sys2Proof.Machine

namespace Sys2Proof.Faults

open Sys2Proof.Machine

/-- Settles O9: the status agrees with the stated one block by block, and what READ_STATUS clears goes by each source's live part. -/
theorem readStatusAnswered : Obligations.ReadStatusAnswered := by
  refine ⟨fun s => ?_, fun s tag e h => ?_⟩
  · have hsources : Source.all.map (sourceStatus s) = _ := congrArg (List.map · Source.all) (funext (sourceStatus_eq s))
    refine (Status.mk.injEq ..).mpr ⟨?_, ?_, ?_, ?_, List.map_congr_left fun l _ => laneStatus_eq l, rfl, rfl, ?_, rfl, ?_, ?_⟩
    · rw [ictStatus, hsources]
      rfl
    · exact congrArg (fun m => ({ encStatus s with haltedMs := m } : EncStatus)) (encStatus_haltedMs s)
    · refine congrArg₂ (fun hs b => ({ lasStatus s with heads := hs, inProcessing := b } : LasStatus))
        (List.map_congr_left fun h _ => ?_) (isSome_eq_decide _)
      cases h.delivery <;> rfl
    · rw [ffcStatus, Table.valid_eq, Table.valid_eq]
    · exact congrArg (fun n => ({ trkStatus s with tentative := n } : TrkStatus)) (trkStatus_tentative s)
    · rw [rpqStatus, decide_eq_decide.mpr Nat.pos_iff_ne_zero]
    · rw [lnkStatus, isSome_eq_decide]
  · refine (exec_readStatus (h.elapse e) tag).trans ?_
    simp only [clearRead, State.live_eq]
    rfl

/-- Settles O16: the bits of the reasons that stand add up to the detail of the refusal; with none of them the run is begun. -/
theorem start : Obligations.Start := by
  intro s tag h hs width noHead darkValid gainValid armed
  have hhead : s.las.enabledHeads = [] ↔ noHead := s.las.enabledHeads_eq_nil_iff
  have hdark : s.ffc.dark.valid s.las.width = true ↔ darkValid := s.ffc.dark.valid_iff width
  have hgain : s.ffc.gain.valid s.las.width = true ↔ gainValid := s.ffc.gain.valid_iff width
  have harmed : s.lnc.any Lane.armed = true ↔ armed := any_armed_iff s.lnc
  refine ⟨fun a b c d ha hb hc hd hpos => ?_, fun hn hdv hgv har hr => ?_⟩
  · have hmask : reasonMask (startReasons s) = a + b + c + d := by
      simp only [startReasons, reasonMask_append]
      rw [reasonMask_stands hhead ha, reasonMask_fails hdark hb, reasonMask_fails hgain hc, reasonMask_fails harmed hd]
    have hne : startReasons s ≠ [] := fun he => by
      rw [he] at hmask
      exact absurd hmask (Nat.ne_of_lt hpos)
    exact exec_start h hs tag (hmask ▸ handleStart_refused tag hne) (h.rests_withReply _ _)
  · have hnone : startReasons s = [] := by
      rw [startReasons, if_neg (mt hhead.mp hn), if_pos (hdark.mpr hdv), if_pos (hgain.mpr hgv), if_pos (harmed.mpr har)]
      rfl
    exact exec_start h hs tag (handleStart_taken tag hnone hr)
      (h.rests_answered (by rfl) (State.nothingDue_of_running (by rfl)) _ _)

end Sys2Proof.Faults
end

section
/-! PROOFS. A run's stop does not depend on the link: short of MEMORY_FATAL, posts and the closing of tracks neither read it nor change
it. -/

namespace Sys2Proof.Machine

/-- The part with another link. -/
def State.withLink (s : State) (l : Lnk) : State := { s with lnk := l }

/-- Two parts that differ in the link alone, the second having the link `l`; or MEMORY_FATAL has been taken in both. -/
def sameButLink (l : Lnk) (s t : State) : Prop :=
  s.ict.state = .faulted ∧ t.ict.state = .faulted ∨ t = s.withLink l

/-- An operation for which the link is of no account, short of MEMORY_FATAL. -/
structure Linkless (l : Lnk) (f : State → State) : Prop where
  faulted : ∀ s, s.ict.state = .faulted → (f s).ict.state = .faulted
  same : ∀ s, sameButLink l (f s) (f (s.withLink l))

theorem faulted_spared : Spared fun s => s.ict.state = .faulted := by
  simpa only [or_self] using state_spared (st := .faulted) (by decide)

namespace Linkless

variable {l : Lnk} {f g : State → State}

theorem apply (hf : Linkless l f) {s t : State} (h : sameButLink l s t) : sameButLink l (f s) (f t) := by
  rcases h with ⟨hs, ht⟩ | rfl
  · exact .inl ⟨hf.faulted s hs, hf.faulted t ht⟩
  · exact hf.same s

theorem comp (hg : Linkless l g) (hf : Linkless l f) : Linkless l fun s => g (f s) :=
  ⟨fun s hs => hg.faulted _ (hf.faulted s hs), fun s => hg.apply (hf.same s)⟩

/-- An operation that commutes with a change of the link and keeps FAULTED. -/
theorem of_eq (hf : ∀ s, s.ict.state = .faulted → (f s).ict.state = .faulted)
    (h : ∀ s, f (s.withLink l) = (f s).withLink l) : Linkless l f := ⟨hf, fun s => .inr (h s)⟩

theorem id : Linkless l fun s => s := .of_eq (fun _ hs => hs) fun _ => rfl

/-- A choice between two operations by what is not the link. -/
theorem ite {c : State → Prop} [DecidablePred c] (hc : ∀ s, c (s.withLink l) ↔ c s) (hf : Linkless l f) (hg : Linkless l g) :
    Linkless l fun s => if c s then f s else g s where
  faulted s hs := by
    split
    · exact hf.faulted s hs
    · exact hg.faulted s hs
  same s := by
    simp only [hc]
    split
    · exact hf.same s
    · exact hg.same s

/-- An operation chosen by a value that the link has no part in. -/
theorem bind {α : Type} {p : State → α} (hp : ∀ s, p (s.withLink l) = p s) {f : α → State → State}
    (hf : ∀ a, Linkless l (f a)) : Linkless l fun s => f (p s) s where
  faulted s hs := (hf _).faulted s hs
  same s := by
    simp only [hp]
    exact (hf _).same s

theorem foldl {α : Type} {f : State → α → State} (hf : ∀ a, Linkless l (f · a)) (as : List α) :
    Linkless l fun s => as.foldl f s := by
  induction as with
  | nil => exact .id
  | cons a as ih => exact ih.comp (hf a)

/-! ### Posts and what they give rise to -/

section
variable {post : Post} (hp : ∀ r c, Linkless l (post r c))
include hp

theorem occurWith (src : Source) (d n : Option Nat) : Linkless l (occurWith post src d n) := by
  have counted : Linkless l fun s => { s with ict := s.ict.count src } := .of_eq (fun _ hs => hs) fun _ => rfl
  have reported (act : Action) : Linkless l fun s =>
      if act.reports && !s.ict.latches.getD src.code false then
        post (.fault src false d n act none) none { s with ict := s.ict.count src }
      else { s with ict := s.ict.count src } :=
    ite (fun _ => Iff.rfl) ((hp _ _).comp counted) counted
  have stopped (act : Action) : Linkless l fun s =>
      if act = .stop ∧ s.ict.state = .running then beginStopWith post (.fault src) s else s := by
    refine ⟨fun s hs => ?_, fun s => ?_⟩
    · rw [if_neg fun h => absurd (hs.symm.trans h.2) (by decide)]
      exact hs
    · by_cases h : act = .stop ∧ s.ict.state = .running
      · rw [if_pos h, if_pos (by exact h)]
        exact (hp _ _).same _
      · rw [if_neg h, if_neg (by exact h)]
        exact .inr rfl
  exact bind (p := fun s => s.ict.action src) (fun _ => rfl) fun act => (stopped act).comp (reported act)

theorem correctedWith (n : Nat) : Linkless l (correctedWith post n) := by
  induction n with
  | zero => exact .id
  | succ n ih => exact ih.comp (occurWith hp _ _ _)

variable (hm : ∀ s, (memoryFatalWith post s).shut)
include hm

theorem readRecordWith (id : Nat) : Linkless l (readRecordWith post id) := by
  have repaired : Linkless l fun s =>
      s.setTrack id { s.track id with wrongWords := (s.track id).wrongWords.dropWhile (fun h => h ≠ .double) } :=
    .of_eq (fun _ hs => hs) fun _ => rfl
  have fatal : Linkless l (memoryFatalWith post) := ⟨fun s _ => (hm s).1, fun _ => .inl ⟨(hm _).1, (hm _).1⟩⟩
  have checked : Linkless l fun s => if (s.track id).wrongWords.isEmpty then s else memoryFatalWith post s :=
    ite (fun _ => Iff.rfl) .id fatal
  exact ite (c := fun s => (s.track id).wrongWords.isEmpty = true) (fun _ => Iff.rfl) .id
    (checked.comp (bind
      (p := fun s => ((s.track id).wrongWords.takeWhile (fun h => h ≠ .double)).countP (fun h => h = .single))
      (fun _ => rfl) fun n => (correctedWith hp n).comp repaired))

theorem takeNoticeWith (n : Notice) : Linkless l (takeNoticeWith post n) :=
  (ite (c := fun s => (s.track n.id).state = .held ∧ (s.track n.id).serial = n.serial) (fun _ => Iff.rfl)
    (of_eq (f := (·.freeTrack n.id)) (fun _ hs => hs) fun _ => rfl) .id).comp (readRecordWith hp hm n.id)

theorem postWith (r : Report) (c : Option Notice) : Linkless l (postWith post r c) where
  faulted := faulted_spared.postWith (fun r c => (hp r c).faulted) hm r c
  same s := by
    rcases hq : s.rpq.take r c with ⟨q, _ | n⟩ <;>
      have hq' : (s.withLink l).rpq.take r c = _ := hq <;> simp only [Machine.postWith, hq, hq']
    · exact .inr rfl
    · exact (takeNoticeWith hp hm n).same { s with rpq := q }

end

theorem postDepth (n : Nat) (r : Report) (c : Option Notice) : Linkless l (postDepth n r c) := by
  induction n generalizing r c with
  | zero => exact .of_eq (fun _ hs => hs) fun _ => rfl
  | succ n ih =>
    exact postWith ih (memoryFatalWith_shut (shut_stable.postDepth n) (shutIfFaulted_spared.postDepth n)) r c

/-! ### The closing of tracks (R119, R121) -/

theorem countSpot (i n : Nat) : Linkless l (countSpot i n) :=
  ite (c := fun s => (lane s i).patchNumber = n) (fun _ => Iff.rfl) (.of_eq (fun _ hs => hs) fun _ => rfl) .id

theorem settleSlot (id : Nat) (t : Track) (cause : CloseCause) (n : Nat) : Linkless l (settleSlot id t cause n) :=
  ite (c := fun s => s.trk.keeps t = true) (fun _ => Iff.rfl) (.of_eq (fun _ hs => hs) fun _ => rfl)
    (.of_eq (fun _ hs => hs) fun _ => rfl)

theorem closeTrack (id : Nat) (t : Track) (cause : CloseCause) : Linkless l (closeTrack id t cause) := by
  have numbered (n : Nat) : Linkless l fun s => { s with trk := { s.trk with serial := n } } :=
    .of_eq (fun _ hs => hs) fun _ => rfl
  have counted (n : Nat) : Linkless l fun s =>
      if t.kind = .spot then Machine.countSpot t.lane t.patchNumber { s with trk := { s.trk with serial := n } }
      else { s with trk := { s.trk with serial := n } } :=
    ite (fun _ => Iff.rfl) ((countSpot _ _).comp (numbered n)) (numbered n)
  exact ite (c := fun s => t.silent s.trk.minArea = true) (fun _ => Iff.rfl) (.of_eq (fun _ hs => hs) fun _ => rfl)
    (bind (p := fun s => nextSerial s.trk.serial) (fun _ => rfl) fun n =>
      bind (p := fun s => closeReport id t cause (s.trk.keeps t && decide (0 < t.clip.rows))) (fun _ => rfl) fun r =>
        (postDepth 5 r (some { id := id, serial := n })).comp ((settleSlot id t cause n).comp (counted n)))

theorem allClosed : Linkless l State.allClosed :=
  bind (p := fun s => (List.range 64).filter (fun id => (s.track id).state = .open)) (fun _ => rfl) fun ids =>
    foldl (f := fun u id => Machine.closeTrack id (u.track id) .stopped u)
      (fun id => bind (p := fun u => u.track id) (fun _ => rfl) fun t => closeTrack id t .stopped) ids

end Linkless

end Sys2Proof.Machine
end

section
/-! PROOFS. STOP in each inspection state (R53, R73, R121, R173, R174). -/

namespace Sys2Proof.Machine

/-! ## The STOP procedure with another link -/

/-- The lanes' step and the entry into STOPPED with its report (R173). -/
def State.stopEntered (s : State) : State :=
  State.withReport { s with lnc := s.lnc.map Lane.stopStep, ict := { s.ict with state := .stopped } }
    (.state .stopped s.ict.lastStop)

theorem State.stopped_eq (s : State) : s.stopped = s.slotsDiscarded.allClosed.stopEntered := rfl

theorem State.stopRuns_iff (s : State) :
    s.stopRuns ↔ (∀ id < 64, (s.track id).state = .open → (s.track id).wrongWords = []) ∧
      s.slotsDiscarded.allClosed.ict.state ≠ .faulted ∧ s.slotsDiscarded.allClosed.room .state := Iff.rfl

/-- The STOP procedure runs alike whatever the link. -/
theorem State.stopRuns.withLink {s : State} (h : s.stopRuns) (l : Lnk) :
    (s.withLink l).stopRuns ∧ (s.withLink l).stopped = s.stopped.withLink l := by
  obtain ⟨hw, hf, hr⟩ := s.stopRuns_iff.mp h
  have hclosed : (s.withLink l).slotsDiscarded.allClosed = s.slotsDiscarded.allClosed.withLink l :=
    (Linkless.allClosed.same s.slotsDiscarded).resolve_left fun hfaulted => hf hfaulted.1
  rw [State.stopRuns_iff, State.stopped_eq, State.stopped_eq, hclosed]
  exact ⟨⟨hw, hf, hr⟩, rfl⟩

/-- Once the STOP procedure has run no track is OPEN. -/
theorem State.stopRuns.closed {s : State} (h : s.stopRuns) : ∀ id < 64, (s.stopped.track id).state ≠ .open := by
  obtain ⟨hw, hf, -⟩ := s.stopRuns_iff.mp h
  have hclosed := closed_closeAll s.slotsDiscarded
  rw [closeAll_eq (s := s.slotsDiscarded) hw hf] at hclosed
  exact fun id hid => hclosed.resolve_left hf id (List.mem_range.mpr hid)

/-- With no OPEN track there is none to close. -/
theorem State.allClosed_of_none {s : State} (h : ∀ id < 64, (s.track id).state ≠ .open) : s.allClosed = s := by
  have hnone : (List.range 64).filter (fun id => (s.track id).state = .open) = [] := by
    simpa [List.filter_eq_nil_iff] using h
  rw [State.allClosed, hnone]
  rfl

/-! ## STOP in RUNNING (R173) -/

/-- A request of a listening part whose procedure goes on, to its end, in the same event. -/
theorem exec_row_finished {s t u : State} (h : s.listening) (r : Request) (tag : Byte) {p : List Byte}
    (hp : p.length ≤ Config.payloadLimit) (hr : refusedByState r s.ict.state = none) (hl : r.lengthOk p = true)
    (ht : handle r tag p s = t) (hf : finishProcedures t = u) (hu : u.rests) : exec (r.row tag p) s = .next u.sends := by
  obtain ⟨-, hj, hc⟩ := hu
  rw [exec_row, inService_deliver s h _ _ _ hp, processFrame_taken s r tag p hr hl, ht, hf, serve_of_idle 3 u hj hc,
    serveAll_of_unwanted _ fun _ => ⟨by simp [hc], by simp [hj]⟩]

/-- The part as a STOP request in RUNNING makes it STOPPING, but for the link. -/
def State.stopRequested (s : State) : State :=
  State.withReport
    { s with ict := { s.ict with state := .stopping, lastStop := .request, limitPending := false } }
    (.state .stopping .request)

/-- The link with a STOP in progress. -/
def Lnk.withStop (l : Lnk) (tag : Byte) : Lnk := { l with inProgress := some { tag := tag, reply := none } }

/-- STOP in RUNNING becomes the request in progress. -/
theorem handleStop_running {s : State} (tag : Byte) (hs : s.ict.state = .running) (hr : s.room .state) :
    handleStop tag s = s.stopRequested.withLink (s.lnk.withStop tag) := by
  simp only [handleStop, hs]
  exact beginStop_room .request (s.withLink (s.lnk.withStop tag)) hr

section
variable {s : State} (h : s.listening) (tag : Byte) (hs : s.ict.state = .running)
include h hs

/-- While a line is in processing the procedure waits. -/
theorem exec_stop_waiting (hp : s.las.processing ≠ none) (hr : s.room .state) :
    exec (.stop tag []) s = .next (s.stopRequested.withLink (s.lnk.withStop tag)).sends :=
  exec_row_handled h .stop tag (Nat.zero_le _) (by rw [hs]; rfl) rfl (handleStop_running tag hs hr)
    ⟨State.nothingDue_of_processing (show Inspection.stopping ≠ .calibrating by decide) hp, h.rests.2.1, rfl⟩

/-- With no line in processing the procedure runs to its end, and the request in progress is answered. -/
theorem exec_stop_finished (hp : s.las.processing = none) (hr : s.room .state) (hruns : s.stopRequested.stopRuns) :
    exec (.stop tag []) s = .next (s.stopRequested.stopped.withReply tag (.done (.stop .stopped .request))).sends := by
  have hframe : s.stopRequested.stopped.lnk = s.lnk := (s.stopRequested.stopped_frame hruns rfl).1
  obtain ⟨⟨-, -, -, hi, -⟩, -, -, hl, -⟩ := id h
  have hlink : ({ s.lnk.withStop tag with inProgress := none } : Lnk) = s.stopRequested.stopped.lnk := by
    rw [hframe, ← hi]
    rfl
  have hfinished : finishProcedures (s.stopRequested.withLink (s.lnk.withStop tag)) =
      s.stopRequested.stopped.withReply tag (.done (.stop .stopped .request)) := by
    obtain ⟨hruns', hstopped⟩ := hruns.withLink (s.lnk.withStop tag)
    rw [finishProcedures_stopping hruns' rfl hp, hstopped,
      finishRequest_enters (s := s.stopRequested.stopped.withLink (s.lnk.withStop tag)) _ rfl hl]
    exact congrArg (fun l => (s.stopRequested.stopped.withLink l).withReply tag _) hlink
  exact exec_row_finished h .stop tag (Nat.zero_le _) (by rw [hs]; rfl) rfl (handleStop_running tag hs hr) hfinished
    (h.rests_stopped hframe rfl _ _)

end

/-- With no OPEN track the procedure discards the slots, takes the lanes' step and enters STOPPED. -/
theorem State.stopRuns_of_none {s : State} (h : ∀ id < 64, (s.track id).state ≠ .open) (hr : s.room .state)
    (hs : s.ict.state ≠ .faulted) : s.stopRuns ∧ s.stopped = s.slotsDiscarded.stopEntered := by
  have hclosed : s.slotsDiscarded.allClosed = s.slotsDiscarded := State.allClosed_of_none h
  rw [State.stopRuns_iff, State.stopped_eq, hclosed]
  exact ⟨⟨fun id hid ho => absurd ho (h id hid), hs, hr⟩, rfl⟩

/-! ## STOP elsewhere (R53, R174) -/

/-- In CALIBRATING the calibration is ABORTED with its report, and STOPPED entered with its own. -/
theorem handleStop_calibrating {s : State} (tag : Byte) {r : CalRecord} (hs : s.ict.state = .calibrating)
    (ha : s.ffc.active = true) (hrec : s.ffc.record = some r) (hq : s.rpq.queue.length + 2 ≤ 128)
    (hstate : 0 < s.rpq.priorityOf .state) (hcal : 0 < s.rpq.priorityOf .calibration) :
    handleStop tag s =
      State.withReply
        (State.withReport
          { (s.leaveCalibration .aborted).withReport r.abortedReport with
            ict := { s.ict with state := .stopped, lastStop := .request } }
          (.state .stopped .request))
        tag (.done (.stop .stopped .request)) := by
  have haborted : abortCalibration s = (s.leaveCalibration .aborted).withReport r.abortedReport := by
    simp only [abortCalibration, abortCalibrationWith, ha, if_true, hrec]
    exact post_room (s.leaveCalibration .aborted) r.abortedReport none (State.room_of_two hq hcal)
  have hnot : ((s.leaveCalibration .aborted).withReport r.abortedReport).ict.state ≠ .faulted := by
    change s.ict.state ≠ .faulted
    rw [hs]
    decide
  have hroom := (s.leaveCalibration .aborted).room_withReport (k := .state) r.abortedReport hq hstate
  have hentered := enterState_room { (s.leaveCalibration .aborted).withReport r.abortedReport with
    ict := { s.ict with lastStop := .request } } .stopped hroom
  simp only [handleStop, hs, stopCalibration, haborted]
  rw [unlessFaulted_eq hnot]
  exact congrArg (answerStop tag) hentered

end Sys2Proof.Machine

namespace Sys2Proof.Faults

open Sys2Proof.Machine

/-- Settles O17: the four ways of a STOP, by the inspection state and the line in processing. In RUNNING the request's place in the
link is no part of the procedure, which is that of the part without it. -/
theorem stop : Obligations.Stop := by
  intro s tag h
  refine ⟨fun hs => ?_, fun hs hp hr => ?_, fun hs hp ho hq hstate => ?_, fun hs hp hr hu => ?_,
    fun r hs ha hrec hq hstate hcal => ?_⟩
  · have htaken : refusedByState .stop s.ict.state = none ∧ handleStop tag s = answerStop tag s := by
      rcases hs with hs | hs <;> exact ⟨by rw [hs]; rfl, by rw [handleStop, hs]⟩
    exact exec_row_handled h .stop tag (Nat.zero_le _) htaken.1 rfl htaken.2 (h.rests_withReply _ _)
  · exact exec_stop_waiting h tag hs hp hr
  · obtain ⟨hruns, hstopped⟩ := State.stopRuns_of_none (s := s.stopRequested) ho
      (State.room_withReport (s := { s with ict := _ }) _ hq hstate) (show Inspection.stopping ≠ .faulted by decide)
    refine (exec_stop_finished h tag hs hp (State.room_of_two hq hstate) hruns).trans ?_
    rw [hstopped]
    refine congrArg (fun lanes => Host.Outcome.next (State.withReply { s.stopRequested.slotsDiscarded.stopEntered with
      lnc := lanes } tag (.done (.stop .stopped .request))).sends) (List.map_congr_left fun l _ => ?_)
    rw [Lane.stopStep]
    cases l.state <;> cases l.change <;> rfl
  · exact ⟨exec_stop_finished h tag hs hp hr hu, hu.closed⟩
  · exact exec_row_handled h .stop tag (Nat.zero_le _) (by rw [hs]; rfl) rfl
      (handleStop_calibrating tag hs ha hrec hq hstate hcal) (h.rests_stopped (by rfl) (by rfl) _ _)

end Sys2Proof.Faults
end
